-- ==== Sys2Proof/Word.lean ====
section
/-! DEFINITION. The word types of the KFCU: the widths of R10 (00_scope.md) and of the registers of R21 to R27
(10_state.md). `Laws/Widths.lean` proves that they are the widths of the parameter table. -/

namespace Sys2Proof

/-- One record byte (R12). -/
abbrev Byte := BitVec 8

/-- The 4-bit opcode field `w[19:16]` (R60, OP_BITS). -/
abbrev OpWord := BitVec 4

/-- The 16-bit operand field `w[15:0]` (R60, ARG_BITS). -/
abbrev ArgWord := BitVec 16

/-- One 20-bit command word (R60). -/
abbrev CmdWord := BitVec 20

/-- The 16-bit response data (R26, DATA_BITS). -/
abbrev DataWord := BitVec 16

/-- The 9-bit instrument number of a section, 0..511 (R18, INS_BITS). -/
abbrev InsNumber := BitVec 9

/-- The active flags of the 4 sections: bit `i` is section `i + 1`, 1 = active (R18, R86, MUTE_SECTIONS). -/
abbrev ActiveFlags := BitVec 4

/-- The 7-bit checksum accumulator (R21, ACC_BITS). -/
abbrev Sum7 := BitVec 7

/-- The 7-bit record position counter (R22, POS_BITS). -/
abbrev Pos7 := BitVec 7

end Sys2Proof
end

