-- ==== Sys2Proof/Syntax.lean ====
section
/-! DEFINITION. The command set: one constructor per row of spec/opcode_table.json (R63, 30_encoding.md), with the
operand fields of the row's format (R61, R62), and the lines of the assembler (R67, R68). -/

namespace Sys2Proof

/-- A command, as the decoder reads it from a 20-bit word. A field `sbz` holds the operand bits that should be zero
(R61); the word with some of them set is a command too, and has the outcome RANGE, so they are kept. -/
inductive Instr where
  /-- NOP, format Z, op 0x0 (R130). -/
  | nop (sbz : BitVec 16)
  /-- INS.ENC, format V9, op 0x1 (R81): `v` is the instrument number. -/
  | insEnc (sbz : BitVec 7) (v : InsNumber)
  /-- INS.DEC, format BB, op 0x2 (R82): `b0` is the MSB byte, `b1` the LSB byte; no SBZ bits. -/
  | insDec (b0 b1 : Byte)
  /-- MUTE.ENC, format N4, op 0x3 (R83): `f` holds the active flags. -/
  | muteEnc (sbz : BitVec 12) (f : ActiveFlags)
  /-- MUTE.DEC, format B8, op 0x4 (R84): `b` is the mute byte. -/
  | muteDec (sbz : BitVec 8) (b : Byte)
  /-- CK.CLR, format Z, op 0x5 (R105). -/
  | ckClr (sbz : BitVec 16)
  /-- CK.ADD, format B8, op 0x6 (R106). -/
  | ckAdd (sbz : BitVec 8) (x : Byte)
  /-- CK.REC, format B8, op 0x7 (R107). -/
  | ckRec (sbz : BitVec 8) (x : Byte)
  /-- CK.RD, format Z, op 0x8 (R108). -/
  | ckRd (sbz : BitVec 16)
  /-- CK.STAT, format Z, op 0x9 (R109). -/
  | ckStat (sbz : BitVec 16)
  /-- RESERVED, the table's row `101x`: op 0xA or 0xB, `x` the opcode's low bit; `arg` is not checked (R131). -/
  | reservedAB (x : BitVec 1) (arg : ArgWord)
  /-- RESERVED, the table's row `11xx`: op 0xC to 0xF, `x` the opcode's low two bits; `arg` is not checked (R131). -/
  | reservedCF (x : BitVec 2) (arg : ArgWord)
  deriving DecidableEq, Repr

/-- A line of the assembler: a form of R67 or a pseudo-instruction of R68, with the numbers as they are written. -/
inductive AsmLine where
  | nop
  | insEnc (v : Nat)
  | insDec (b0 b1 : Nat)
  | muteEnc (f : Nat)
  | muteDec (b : Nat)
  | ckClr
  | ckAdd (x : Nat)
  | ckRec (x : Nat)
  | ckRd
  | ckStat
  /-- `.word 0xOAAAA`: the 20-bit word as written. -/
  | word (w : Nat)
  /-- `mute.active s1, ..., sk` -/
  | muteActive (sections : List Nat)
  /-- `mute.none` -/
  | muteNone
  /-- `mute.all` -/
  | muteAll
  /-- `ck.sum x1, ..., xn` -/
  | ckSum (xs : List Nat)
  /-- `ck.record r0, ..., r102` -/
  | ckRecord (rs : List Nat)
  deriving DecidableEq, Repr

end Sys2Proof
end

