-- ==== Sys2Proof/WellFormed.lean ====
section
/-! DEFINITION. When a command is well formed. The widths of the fields of `Instr` already make every term encodable, so
what is left to check is what R9 (00_scope.md) calls a reserved or a malformed word: an SBZ bit that is not 0 (R61) and a
reserved opcode (R64). A command is well formed exactly when the assembler can write it without `.word` (R67); DESIGN CHOICE, log entry 9. An
ill-formed command has a meaning all the same, the error response, so no other definition asks for this. -/

namespace Sys2Proof

/-- The SBZ bits of a command's format are all 0 (R61); INS.DEC and the reserved opcodes have none (R61, R131). -/
def Instr.sbzClear : Instr → Bool
  | .nop sbz => sbz == 0#16
  | .insEnc sbz _ => sbz == 0#7
  | .insDec _ _ => true
  | .muteEnc sbz _ => sbz == 0#12
  | .muteDec sbz _ => sbz == 0#8
  | .ckClr sbz => sbz == 0#16
  | .ckAdd sbz _ => sbz == 0#8
  | .ckRec sbz _ => sbz == 0#8
  | .ckRd sbz => sbz == 0#16
  | .ckStat sbz => sbz == 0#16
  | .reservedAB _ _ => true
  | .reservedCF _ _ => true

/-- The opcode is one of the ten that R63 defines. -/
def Instr.opDefined : Instr → Bool
  | .nop _ => true
  | .insEnc _ _ => true
  | .insDec _ _ => true
  | .muteEnc _ _ => true
  | .muteDec _ _ => true
  | .ckClr _ => true
  | .ckAdd _ _ => true
  | .ckRec _ _ => true
  | .ckRd _ => true
  | .ckStat _ => true
  | .reservedAB _ _ => false
  | .reservedCF _ _ => false

/-- A command the assembler writes without `.word` (R67). -/
def Instr.wellFormed (i : Instr) : Bool :=
  i.opDefined && i.sbzClear

end Sys2Proof
end

