-- ==== Sys2Proof/Decode.lean ====
section
/-! DEFINITION. The decoder of R60 to R63 (30_encoding.md), total on all 2^20 words, and after it the encoder from the
same formats. The only thing a decoder can be given that is no command is a number of more than 20 bits, which is
rejected by name. -/

namespace Sys2Proof

/-- `op = w[19:16]` (R60). -/
def opField (w : CmdWord) : OpWord := w.extractLsb' 16 4

/-- `arg = w[15:0]` (R60). -/
def argField (w : CmdWord) : ArgWord := w.extractLsb' 0 16

/-- `w = {op, arg}` (R60, R162). -/
def packWord (op : OpWord) (arg : ArgWord) : CmdWord := op ++ arg

/-- `case op of ...`: the ten rows of R63 and the two reserved rows, each with the operand fields of its format
(R61, R62). -/
def decodeFields (op : OpWord) (arg : ArgWord) : Instr :=
  match op.toNat with
  | 0 => .nop arg
  | 1 => .insEnc (arg.extractLsb' 9 7) (arg.extractLsb' 0 9)
  | 2 => .insDec (arg.extractLsb' 8 8) (arg.extractLsb' 0 8)
  | 3 => .muteEnc (arg.extractLsb' 4 12) (arg.extractLsb' 0 4)
  | 4 => .muteDec (arg.extractLsb' 8 8) (arg.extractLsb' 0 8)
  | 5 => .ckClr arg
  | 6 => .ckAdd (arg.extractLsb' 8 8) (arg.extractLsb' 0 8)
  | 7 => .ckRec (arg.extractLsb' 8 8) (arg.extractLsb' 0 8)
  | 8 => .ckRd arg
  | 9 => .ckStat arg
  | 10 => .reservedAB 0#1 arg
  | 11 => .reservedAB 1#1 arg
  | _ => .reservedCF (op.extractLsb' 0 2) arg

/-- The decoder: the command a 20-bit word stands for (R63). -/
def decode (w : CmdWord) : Instr :=
  decodeFields (opField w) (argField w)

/-- The names by which the decoder rejects what is no command. -/
inductive DecodeError where
  /-- The number has a bit above bit 19, and a command word has 20 bits (R60, R65). -/
  | widerThanCommandWord
  deriving DecidableEq, Repr

/-- The 20-bit word that a number stands for, if it has no bit above bit 19. -/
def commandWord (n : Nat) : Except DecodeError CmdWord :=
  if n < 2 ^ 20 then .ok (BitVec.ofNat 20 n) else .error .widerThanCommandWord

/-- The decoder on any number. -/
def decodeNat (n : Nat) : Except DecodeError Instr :=
  (commandWord n).map decode

/-- The decoder on any bytes, the least significant byte first (as the opcode table numbers the bits). The KFCU itself
stores no command (R52). -/
def decodeBytes (bs : List Byte) : Except DecodeError Instr :=
  decodeNat (bs.foldr (fun b n => b.toNat + 256 * n) 0)

/-- The command word in `nbits` bits numbered as spec/opcode_table.json numbers them; every bit above them is 0. -/
def tableWord (nbits w : Nat) : Except DecodeError CmdWord :=
  commandWord (w % 2 ^ nbits)

/-- The command the decoder reads from the bits `w` of a row of spec/opcode_table.json. -/
def decodeTableWord (nbits w : Nat) : Option Instr :=
  match tableWord nbits w with
  | .ok c => some (decode c)
  | .error _ => none

/-! ### The encoder -/

/-- The opcode of a command (R63). -/
def Instr.op : Instr → OpWord
  | .nop _ => 0x0#4
  | .insEnc _ _ => 0x1#4
  | .insDec _ _ => 0x2#4
  | .muteEnc _ _ => 0x3#4
  | .muteDec _ _ => 0x4#4
  | .ckClr _ => 0x5#4
  | .ckAdd _ _ => 0x6#4
  | .ckRec _ _ => 0x7#4
  | .ckRd _ => 0x8#4
  | .ckStat _ => 0x9#4
  | .reservedAB x _ => 0b101#3 ++ x
  | .reservedCF x _ => 0b11#2 ++ x

/-- The operand field of a command, laid out by its format (R61). -/
def Instr.arg : Instr → ArgWord
  | .nop sbz => sbz
  | .insEnc sbz v => sbz ++ v
  | .insDec b0 b1 => b0 ++ b1
  | .muteEnc sbz f => sbz ++ f
  | .muteDec sbz b => sbz ++ b
  | .ckClr sbz => sbz
  | .ckAdd sbz x => sbz ++ x
  | .ckRec sbz x => sbz ++ x
  | .ckRd sbz => sbz
  | .ckStat sbz => sbz
  | .reservedAB _ arg => arg
  | .reservedCF _ arg => arg

/-- The word of a command (R60, R61, R63). -/
def encode (i : Instr) : CmdWord :=
  packWord i.op i.arg

end Sys2Proof
end

