-- ==== Sys2Proof/Config.lean ====
section
/-! DEFINITION. The parameters of R10 (00_scope.md) as named constants, and the register values the spec leaves free at
power-up (R165, 70_reset_and_hazards.md). The numeric literals are the source's, which
the spec calls unaudited (I2 of 93_implementation_defined.md): UNVERIFIED, unsafe, log entry 10. -/

namespace Sys2Proof.Config

/-- INS_BITS: width of an instrument number. -/
abbrev insBits : Nat := 9
/-- INS_MSB_MAX: largest MSB byte value. -/
abbrev insMsbMax : Nat := 3
/-- INS_LSB_MAX: largest LSB byte value. -/
abbrev insLsbMax : Nat := 127
/-- INS_RADIX: weight of the MSB byte. -/
abbrev insRadix : Nat := 128
/-- MUTE_SECTIONS: sections in the mute nibble. -/
abbrev muteSections : Nat := 4
/-- REC_LEN: bytes in a multi/combi record. -/
abbrev recLen : Nat := 103
/-- CK_POS: record position of the checksum byte. -/
abbrev ckPos : Nat := 0
/-- COMMON_LEN: bytes of the common-data region. -/
abbrev commonLen : Nat := 54
/-- SECTION_LEN: bytes of the section-data region, derived (R41). -/
abbrev sectionLen : Nat := recLen - 1 - commonLen
/-- CK_CONST: constant added to the sum. -/
abbrev ckConst : Nat := 0xA5
/-- CK_MASK: result mask. -/
abbrev ckMask : Nat := 0x7F
/-- OP_BITS: opcode width of a command. -/
abbrev opBits : Nat := 4
/-- ARG_BITS: operand width of a command. -/
abbrev argBits : Nat := 16
/-- DATA_BITS: response data width. -/
abbrev dataBits : Nat := 16
/-- ACC_BITS: checksum accumulator width. -/
abbrev accBits : Nat := 7
/-- POS_BITS: record position counter width. -/
abbrev posBits : Nat := 7

/-! The unspecified register contents from power-up until the first reset edge (R35, R165): free values, DESIGN CHOICE, log
entry 4. The argument counts the rising edges since power-up, so that no value is tied to the one before it. Nothing
constrains them; "a reset edge has occurred" is the premise of every claim about a register (R165). -/

opaque powerUpAcc : Nat → Sum7
opaque powerUpPos : Nat → Pos7
opaque powerUpStored : Nat → Byte
opaque powerUpSvalid : Nat → Bool
opaque powerUpLastErr : Nat → BitVec 2
opaque powerUpDout : Nat → DataWord
opaque powerUpRvalid : Nat → Bool

end Sys2Proof.Config
end

