-- ==== Sys2Proof/Machine/State.lean ====
section
/-! DEFINITION. The state of the KFCU: the seven registers of R20 (10_state.md), the model's own record of whether a
reset edge has occurred (R165, 70_reset_and_hazards.md) and the host's port samples that the coming edges will see
(R160). The KFCU has no memory (R40), no program counter (R30) and no general register (R29). -/

namespace Sys2Proof.Machine

/-- The status codes that LAST_ERR holds (R25, R141). All four values of the 2-bit register are named, so the closed type
and the register hold the same things; `Status.code` is the 2-bit value (DESIGN CHOICE, log entry 7). -/
inductive Status where
  /-- 0: the command completed. -/
  | ok
  /-- 1: the opcode is reserved. -/
  | illegal
  /-- 2: an SBZ operand bit is 1, or an operand value is out of the source's range. -/
  | range
  /-- 3: CK.REC with POS = 103. -/
  | overrun
  deriving DecidableEq, Repr

/-- The input ports as sampled at one rising edge of `clk` (R160). -/
structure Edge where
  /-- `rst` -/
  rst : Bool
  /-- `cmd_valid` -/
  cmdValid : Bool
  /-- `cmd_op` -/
  cmdOp : OpWord
  /-- `cmd_arg` -/
  cmdArg : ArgWord
  deriving DecidableEq, Repr

/-- The output ports during a cycle (R160). -/
structure OutPorts where
  cmdReady : Bool
  rspValid : Bool
  rspErr : BitVec 2
  rspData : DataWord
  deriving DecidableEq, Repr

/-- Which of the cases of R161 a rising edge is. -/
inductive EdgeCase where
  /-- `rst = 1` (R165). -/
  | reset
  /-- `rst = 0`, `cmd_valid = 0`, after a reset edge (R164). -/
  | idle
  /-- `rst = 0`, `cmd_valid = 0`, and no reset edge has occurred: the registers hold no value (R165, I1). -/
  | idleBeforeReset
  /-- `rst = 0`, `cmd_valid = 1`, after a reset edge: the command `w` is accepted (R162). -/
  | accept (w : CmdWord)
  /-- `rst = 0`, `cmd_valid = 1`, and no reset edge has occurred: the registers hold no value (R165, I1). -/
  | acceptBeforeReset
  deriving DecidableEq, Repr

/-- The state. -/
structure State where
  /-- ACC (R21). -/
  acc : Sum7
  /-- POS (R22). -/
  pos : Pos7
  /-- STORED (R23). -/
  stored : Byte
  /-- SVALID (R24). -/
  svalid : Bool
  /-- LAST_ERR (R25). -/
  lastErr : Status
  /-- DOUT (R26). -/
  dout : DataWord
  /-- RVALID (R27). -/
  rvalid : Bool
  /-- The model's own field: a reset edge has occurred, so that the registers hold values (R165; DEDUCED, log entry 3). -/
  resetSeen : Bool
  /-- The model's own field: how many rising edges there have been since power-up while no reset edge has occurred, the index
  of the free values that stand for the unspecified registers (R165; DESIGN CHOICE, log entry 4). 0 after a reset edge. -/
  unresetEdges : Nat
  /-- The model's own field: what the host drives on the input ports at the coming rising edges, the next one first
  (R8, R160; DESIGN CHOICE, log entry 1). -/
  inputs : List Edge
  deriving DecidableEq, Repr

/-- The KFCU never faults: no outcome is stuck (R9) and an error is a response, not a stop (R140). So no step can raise
one of these, and the type has no constructor. -/
inductive Fault where
  deriving DecidableEq, Repr

/-- The reasons for which the model gives no next state. -/
inductive Refusal where
  /-- An instruction without a meaning. No arm of `exec` raises it. Safe. -/
  | notModelled (mnemonic : String)
  /-- Raised by `step` alone, at a rising edge that presents a command before any reset edge: the registers hold no value
  there (R165), and 93_implementation_defined.md I1 asks a model to refuse. Safe: nothing is claimed of such a
  command (DEDUCED, log entry 3). -/
  | commandBeforeReset
  deriving DecidableEq, Repr

/-- The state right after a reset edge (R35, R165); the host has presented nothing yet (DESIGN CHOICE, log entry 1). -/
def State.reset : State where
  acc := 0x00#7
  pos := 0#7
  stored := 0x00#8
  svalid := false
  lastErr := .ok
  dout := 0x0000#16
  rvalid := false
  resetSeen := true
  unresetEdges := 0
  inputs := []

end Sys2Proof.Machine
end

