-- ==== Sys2Proof/Machine/Flags.lean ====
section
/-! DEFINITION. The values the KFCU shows of its registers: the status code (R141), the checksum readout `ckval` (R15) and
the output ports (R160). The KFCU has no flags (R31). -/

namespace Sys2Proof.Machine

/-- The 2-bit code of a status (R141). -/
def Status.code : Status → BitVec 2
  | .ok => 0#2
  | .illegal => 1#2
  | .range => 2#2
  | .overrun => 3#2

/-- The status that a 2-bit LAST_ERR holds (R141). -/
def Status.ofCode (c : BitVec 2) : Status :=
  match c.toNat with
  | 0 => .ok
  | 1 => .illegal
  | 2 => .range
  | _ => .overrun

/-- `ckval(a) = (zext_8(a) + 0xA5) & 0x7F` (R15). -/
def ckval (a : Sum7) : Sum7 :=
  BitVec.ofNat 7 ((a.toNat + Config.ckConst) &&& Config.ckMask)

/-- The response data of the checksum commands, `{0, ckval(ACC')}` with 0x00 above it (R66). -/
def ckData (a : Sum7) : DataWord :=
  (ckval a).setWidth 16

/-- The response data of CK.STAT, `{STORED[7:0], SVALID, POS[6:0]}` (R66, R109). -/
def statData (stored : Byte) (svalid : Bool) (pos : Pos7) : DataWord :=
  stored ++ (BitVec.ofBool svalid ++ pos)

/-- The output ports, driven straight from the registers; `cmd_ready` is constant 1 (R160, R163). -/
def State.outPorts (s : State) : OutPorts where
  cmdReady := true
  rspValid := s.rvalid
  rspErr := s.lastErr.code
  rspData := s.dout

end Sys2Proof.Machine
end

