-- ==== Sys2Proof/Machine/Operands.lean ====
section
/-! DEFINITION. The operand computations of the commands: the range checks (R64), the instrument number's split and join
(R81, R82), the mute byte (R83, R84) and the checksum addition (R106). The assembly of operands from the word (R62) is
the decoder's. -/

namespace Sys2Proof.Machine

/-- The MSB byte of an instrument number: `zext_8(v[8:7])` (R81). -/
def insMsb (v : InsNumber) : Byte := (v.extractLsb' 7 2).setWidth 8

/-- The LSB byte of an instrument number: `zext_8(v[6:0])` (R81). -/
def insLsb (v : InsNumber) : Byte := (v.extractLsb' 0 7).setWidth 8

/-- The response data of INS.ENC: the MSB byte in the more significant lane (R44, R81). -/
def insBytes (v : InsNumber) : DataWord := insMsb v ++ insLsb v

/-- `b0 > 3 or b1 > 127`: a byte outside the source's range (R82). -/
def insOutOfRange (b0 b1 : Byte) : Bool :=
  decide (Config.insMsbMax < b0.toNat) || decide (Config.insLsbMax < b1.toNat)

/-- The response data of INS.DEC: `zext_16(b0 * 128 + b1)` (R82). -/
def insValue (b0 b1 : Byte) : DataWord :=
  BitVec.ofNat 16 (b0.toNat * Config.insRadix + b1.toNat)

/-- The response data of MUTE.ENC: the mute byte `{0b0000, f}`, zero-extended (R83). No bit is inverted or moved
(R86). -/
def muteByte (f : ActiveFlags) : DataWord := (0#4 ++ f : Byte).setWidth 16

/-- `b[7:4] != 0`: the high nibble is not part of the field (R84). -/
def muteHighSet (b : Byte) : Bool := b.extractLsb' 4 4 != 0#4

/-- The response data of MUTE.DEC: `zext_16(b[3:0])` (R84). No bit is inverted or moved (R86). -/
def muteFlags (b : Byte) : DataWord := (b.extractLsb' 0 4).setWidth 16

/-- `(ACC + x) mod 128`: the 7-bit wrap-around addition (R106, R107). -/
def addByte (acc : Sum7) (x : Byte) : Sum7 :=
  BitVec.ofNat 7 (acc.toNat + x.toNat)

end Sys2Proof.Machine
end

