-- ==== Sys2Proof/Machine/Ops.lean ====
section
/-! DEFINITION. The shared operations over the registers: the two responses (R142, R143), the check of the SBZ bits (R61),
the writes of the checksum registers (R105 to R107), and what a rising edge does beside running a command (R161 to
R165). -/

namespace Sys2Proof.Machine

/-- What a step or a meaning answers. -/
abbrev Result := Host.Outcome State Fault Refusal

/-! ### Responses -/

/-- The three writes of every accepted command: LAST_ERR, DOUT, and 1 to RVALID (R25, R26, R27). -/
def State.respond (s : State) (e : Status) (d : DataWord) : State :=
  { s with lastErr := e, dout := d, rvalid := true }

/-- `ok(d)`: the command completes with the writes that `s` holds already (R14, R143). -/
def ok (d : DataWord) (s : State) : Result :=
  .next (s.respond .ok d)

/-- `raise E`: what the KFCU has in the place of taking an exception (R146). LAST_ERR takes the code, DOUT is 0x0000, RVALID is
1, and nothing else changes (R14, R142). There is no return from it (R147): the next command runs as usual. -/
def raise (e : Status) (s : State) : Result :=
  .next (s.respond e 0x0000#16)

/-- `if arg[..] != 0: raise RANGE`, the check of a format's SBZ bits, made before every other check of a defined opcode
(R61, R144). -/
def checkSbz {n : Nat} (sbz : BitVec n) (s : State) (k : Result) : Result :=
  if sbz = 0#n then k else raise .range s

/-! ### Checksum registers -/

/-- The writes of CK.CLR (R105). -/
def State.clearChecksum (s : State) : State :=
  { s with acc := 0#7, pos := 0#7, stored := 0x00#8, svalid := false }

/-- `ACC <- a` (R106, R107). -/
def State.setAcc (s : State) (a : Sum7) : State :=
  { s with acc := a }

/-- `STORED <- x`, `SVALID <- 1` (R107 at position 0). -/
def State.capture (s : State) (x : Byte) : State :=
  { s with stored := x, svalid := true }

/-- `POS <- POS + 1` (R107), in the register's 7 bits (DEDUCED, log entry 5). -/
def State.advance (s : State) : State :=
  { s with pos := s.pos + 1#7 }

/-! ### Rising edges -/

/-- The edge at which the host presents a command (R160, R162). -/
def Edge.command (w : CmdWord) : Edge where
  rst := false
  cmdValid := true
  cmdOp := opField w
  cmdArg := argField w

/-- An edge at which the host presents nothing (R164). -/
def Edge.idle : Edge where
  rst := false
  cmdValid := false
  cmdOp := 0#4
  cmdArg := 0#16

/-- The state with other port samples to come. -/
def State.withInputs (s : State) (es : List Edge) : State :=
  { s with inputs := es }

/-- The port samples of the next rising edge. Where the list has ended the host presents nothing (DESIGN CHOICE, log entry 2). -/
def State.nextEdge (s : State) : Edge :=
  match s.inputs with
  | [] => Edge.idle
  | e :: _ => e

/-- The state with the next rising edge's samples taken from the list. -/
def State.takeEdge (s : State) : State :=
  s.withInputs s.inputs.tail

/-- Which case of R161 an edge is: reset has priority over a command (R161, R165). -/
def edgeCase (e : Edge) (resetSeen : Bool) : EdgeCase :=
  if e.rst then .reset
  else if e.cmdValid then
    if resetSeen then .accept (packWord e.cmdOp e.cmdArg) else .acceptBeforeReset
  else if resetSeen then .idle else .idleBeforeReset

/-- A reset edge: every register takes its value of R35, and what the host will drive later stays as it was (R165). -/
def State.resetEdge (s : State) : State :=
  State.reset.withInputs s.inputs

/-- An idle edge after a reset edge: RVALID takes 0 and every other register keeps its value (R164). -/
def State.idleEdge (s : State) : State :=
  { s with rvalid := false }

/-- No reset edge has occurred in the `n` rising edges since power-up, so that every register holds an unspecified value:
the free values of that edge (R35, R165, I1; DESIGN CHOICE, log entry 4). -/
def State.unspecified (n : Nat) (inputs : List Edge) : State where
  acc := Config.powerUpAcc n
  pos := Config.powerUpPos n
  stored := Config.powerUpStored n
  svalid := Config.powerUpSvalid n
  lastErr := Status.ofCode (Config.powerUpLastErr n)
  dout := Config.powerUpDout n
  rvalid := Config.powerUpRvalid n
  resetSeen := false
  unresetEdges := n
  inputs := inputs

/-- The state at power-up (R165). -/
def State.powerUp (inputs : List Edge) : State :=
  State.unspecified 0 inputs

/-- An idle edge before any reset edge: every register still holds no value, RVALID too, so each is a fresh free value that no
register of the state before it decides (R165, I1; DESIGN CHOICE, log entry 4). -/
def State.idleUnresetEdge (s : State) : State :=
  State.unspecified (s.unresetEdges + 1) s.inputs

/-- The host presents these edges next, before those it was to present (R8). -/
def State.present (s : State) (es : List Edge) : State :=
  s.withInputs (es ++ s.inputs)

end Sys2Proof.Machine
end

