-- ==== Sys2Proof/Machine/Checksum.lean ====
section
/-! DEFINITION. The rolling checksum accumulator (42_checksum.md). Reads see the state before the command (R13). -/

namespace Sys2Proof.Machine

/-- CK.CLR: start a new checksum (R105). -/
def execCkClr (sbz : BitVec 16) (s : State) : Result :=
  checkSbz sbz s (ok (ckData 0#7) s.clearChecksum)

/-- CK.ADD: add one byte to the running sum (R106). -/
def execCkAdd (sbz : BitVec 8) (x : Byte) (s : State) : Result :=
  checkSbz sbz s (ok (ckData (addByte s.acc x)) (s.setAcc (addByte s.acc x)))

/-- CK.REC: the next byte of a record. RANGE comes before OVERRUN (R144); the byte at position 0 is captured and not summed,
every later byte is summed (R107). -/
def execCkRec (sbz : BitVec 8) (x : Byte) (s : State) : Result :=
  checkSbz sbz s
    (if s.pos.toNat = Config.recLen then raise .overrun s
     else if s.pos.toNat = Config.ckPos then ok (ckData s.acc) (s.capture x).advance
     else ok (ckData (addByte s.acc x)) (s.setAcc (addByte s.acc x)).advance)

/-- CK.RD: read the checksum (R108). -/
def execCkRd (sbz : BitVec 16) (s : State) : Result :=
  checkSbz sbz s (ok (ckData s.acc) s)

/-- CK.STAT: read the record-tracking registers (R109). -/
def execCkStat (sbz : BitVec 16) (s : State) : Result :=
  checkSbz sbz s (ok (statData s.stored s.svalid s.pos) s)

end Sys2Proof.Machine
end

