-- ==== Sys2Proof/Machine/Codec.lean ====
section
/-! DEFINITION. The bit-packed field codec (41_field_codec.md): pure functions of the operand (R80). -/

namespace Sys2Proof.Machine

/-- INS.ENC: an instrument number into its MSB and LSB bytes (R81). -/
def execInsEnc (sbz : BitVec 7) (v : InsNumber) (s : State) : Result :=
  checkSbz sbz s (ok (insBytes v) s)

/-- INS.DEC: an MSB byte and an LSB byte into an instrument number; a byte out of range is rejected, not masked
(R82). -/
def execInsDec (b0 b1 : Byte) (s : State) : Result :=
  if insOutOfRange b0 b1 then raise .range s else ok (insValue b0 b1) s

/-- MUTE.ENC: the section active flags into the mute byte (R83). -/
def execMuteEnc (sbz : BitVec 12) (f : ActiveFlags) (s : State) : Result :=
  checkSbz sbz s (ok (muteByte f) s)

/-- MUTE.DEC: a mute byte into the section active flags; a non-zero high nibble is rejected (R84). -/
def execMuteDec (sbz : BitVec 8) (b : Byte) (s : State) : Result :=
  checkSbz sbz s (if muteHighSet b then raise .range s else ok (muteFlags b) s)

end Sys2Proof.Machine
end

