-- ==== Sys2Proof/Machine/Control.lean ====
section
/-! DEFINITION. The control command NOP and the reserved opcodes (43_control.md). -/

namespace Sys2Proof.Machine

/-- NOP (R130). -/
def execNop (sbz : BitVec 16) (s : State) : Result :=
  checkSbz sbz s (ok 0x0000#16 s)

/-- Opcodes 0xA and 0xB: ILLEGAL, whatever the operand holds (R131, R144). -/
def execReservedAB (_x : BitVec 1) (_arg : ArgWord) (s : State) : Result :=
  raise .illegal s

/-- Opcodes 0xC to 0xF: ILLEGAL, whatever the operand holds (R131, R144). -/
def execReservedCF (_x : BitVec 2) (_arg : ArgWord) (s : State) : Result :=
  raise .illegal s

end Sys2Proof.Machine
end

