-- ==== Sys2Proof/Machine/Dispatch.lean ====
section
/-! DEFINITION. One arm per command, each a direct call of its meaning (the opcode map of R63, 30_encoding.md). -/

namespace Sys2Proof.Machine

/-- What an accepted command does (R9, R162). -/
def exec (i : Instr) (s : State) : Host.Outcome State Fault Refusal :=
  match i with
  | .nop sbz => Sys2Proof.Machine.execNop sbz s
  | .insEnc sbz v => Sys2Proof.Machine.execInsEnc sbz v s
  | .insDec b0 b1 => Sys2Proof.Machine.execInsDec b0 b1 s
  | .muteEnc sbz f => Sys2Proof.Machine.execMuteEnc sbz f s
  | .muteDec sbz b => Sys2Proof.Machine.execMuteDec sbz b s
  | .ckClr sbz => Sys2Proof.Machine.execCkClr sbz s
  | .ckAdd sbz x => Sys2Proof.Machine.execCkAdd sbz x s
  | .ckRec sbz x => Sys2Proof.Machine.execCkRec sbz x s
  | .ckRd sbz => Sys2Proof.Machine.execCkRd sbz s
  | .ckStat sbz => Sys2Proof.Machine.execCkStat sbz s
  | .reservedAB x arg => Sys2Proof.Machine.execReservedAB x arg s
  | .reservedCF x arg => Sys2Proof.Machine.execReservedCF x arg s

end Sys2Proof.Machine
end

