-- ==== Sys2Proof/Machine/Step.lean ====
section
/-! DEFINITION. One step: one rising edge of `clk` (R161, 70_reset_and_hazards.md). -/

namespace Sys2Proof.Machine

/-- One rising edge: exactly one of reset (R165), idle (R164) and accepting a command (R162), by the port samples the host
drives at it. Before any reset edge a command is refused and an idle edge leaves every register without a value (R165, I1). -/
def step (s : State) : Host.Outcome State Fault Refusal :=
  match edgeCase s.nextEdge s.resetSeen with
  | .reset => .next s.takeEdge.resetEdge
  | .idle => .next s.takeEdge.idleEdge
  | .idleBeforeReset => .next s.takeEdge.idleUnresetEdge
  | .accept w => exec (decode w) s.takeEdge
  | .acceptBeforeReset => .refused .commandBeforeReset

/-- The state in which the host presents next the command with the bits `w` of a row of the opcode table: the next step accepts
it, if a reset edge has occurred, as in `State.reset` (R162, R165). Bits that are no command word leave the state as it is
(DESIGN CHOICE, log entry 6). -/
def State.withFetchWord (s : State) (nbits w : Nat) : State :=
  match tableWord nbits w with
  | .ok c => s.present [Edge.command c]
  | .error _ => s

end Sys2Proof.Machine
end

