-- ==== Sys2Proof/Machine/Assembler.lean ====
section
/-! DEFINITION. The assembler's forms (R67) and pseudo-instructions (R68, 30_encoding.md): the words of a line, none where
the assembler refuses it. -/

namespace Sys2Proof.Machine

/-- The word of `ck.add x`. -/
def asmCkAdd (x : Nat) : CmdWord := encode (.ckAdd 0#8 (BitVec.ofNat 8 x))

/-- The word of `ck.rec x`. -/
def asmCkRec (x : Nat) : CmdWord := encode (.ckRec 0#8 (BitVec.ofNat 8 x))

/-- The word of `mute.enc f`. -/
def asmMuteEnc (f : Nat) : CmdWord := encode (.muteEnc 0#12 (BitVec.ofNat 4 f))

/-- Every number of the list is a byte, 0..255. -/
def allBytes (xs : List Nat) : Bool := xs.all (· < 256)

/-- Each section number is in 1..4, and they are distinct (R68). -/
def sectionsOk (ss : List Nat) : Bool :=
  ss.all (fun s => 1 ≤ s && s ≤ Config.muteSections) && decide ss.Nodup

/-- The active flags of some sections: the sum of `2^(si-1)` (R68). -/
def sectionFlags (ss : List Nat) : Nat :=
  (ss.map (fun s => 2 ^ (s - 1))).sum

/-- The words of a line. An operand outside the range of R67 is refused; a pseudo-instruction with a list of operands
has at least one (DESIGN CHOICE, log entry 11). -/
def assemble : AsmLine → Option (List CmdWord)
  | .nop => some [encode (.nop 0#16)]
  | .insEnc v =>
    if v < 2 ^ Config.insBits then some [encode (.insEnc 0#7 (BitVec.ofNat 9 v))] else none
  | .insDec b0 b1 =>
    if allBytes [b0, b1] then some [encode (.insDec (BitVec.ofNat 8 b0) (BitVec.ofNat 8 b1))] else none
  | .muteEnc f => if f < 2 ^ Config.muteSections then some [asmMuteEnc f] else none
  | .muteDec b => if allBytes [b] then some [encode (.muteDec 0#8 (BitVec.ofNat 8 b))] else none
  | .ckClr => some [encode (.ckClr 0#16)]
  | .ckAdd x => if allBytes [x] then some [asmCkAdd x] else none
  | .ckRec x => if allBytes [x] then some [asmCkRec x] else none
  | .ckRd => some [encode (.ckRd 0#16)]
  | .ckStat => some [encode (.ckStat 0#16)]
  | .word w =>
    match commandWord w with
    | .ok c => some [c]
    | .error _ => none
  | .muteActive ss =>
    if ss ≠ [] ∧ sectionsOk ss = true then some [asmMuteEnc (sectionFlags ss)] else none
  | .muteNone => some [asmMuteEnc 0]
  | .muteAll => some [asmMuteEnc 15]
  | .ckSum xs =>
    if xs ≠ [] ∧ allBytes xs = true then
      some (encode (.ckClr 0#16) :: (xs.map asmCkAdd ++ [encode (.ckRd 0#16)]))
    else none
  | .ckRecord rs =>
    if rs.length = Config.recLen ∧ allBytes rs = true then
      some (encode (.ckClr 0#16) :: (rs.map asmCkRec ++ [encode (.ckRd 0#16), encode (.ckStat 0#16)]))
    else none

end Sys2Proof.Machine
end

