-- ==== Sys2Proof/Machine/Record.lean ====
section
/-! DEFINITION. A multi/combi record as the KFCU knows it: the record positions of R41 (20_memory.md) and the checksum of
R100 (42_checksum.md). The section data is not split further (R42). -/

namespace Sys2Proof.Machine

/-- The regions of a record (R41). -/
inductive Region where
  /-- position 0: captured in STORED, not summed -/
  | checksumByte
  /-- positions 1..54: summed -/
  | commonData
  /-- positions 55..102: summed -/
  | sectionData
  deriving DecidableEq, Repr

/-- The region of a record position, none past the record's end (R41; position 54 as 90_conflicts.md C2 settles it). -/
def regionOf (p : Nat) : Option Region :=
  if p = Config.ckPos then some .checksumByte
  else if p < 1 + Config.commonLen then some .commonData
  else if p < 1 + Config.commonLen + Config.sectionLen then some .sectionData
  else none

/-- The exact sum of some bytes (R100). -/
def byteSum (xs : List Byte) : Nat :=
  (xs.map BitVec.toNat).sum

/-- The bytes of the common-data region, `r[1..54]` (R41). -/
def commonData (r : List Byte) : List Byte :=
  (r.drop 1).take Config.commonLen

/-- The bytes of the section-data region, `r[55..102]` (R41). -/
def sectionData (r : List Byte) : List Byte :=
  (r.drop (1 + Config.commonLen)).take Config.sectionLen

/-- `CK(r)`, the checksum of a record (R100): the exact sum of both regions plus 0xA5, masked. -/
def recordChecksum (r : List Byte) : Nat :=
  (byteSum (commonData r) + byteSum (sectionData r) + Config.ckConst) &&& Config.ckMask

end Sys2Proof.Machine
end

