-- ==== Sys2Proof/Machine/Run.lean ====
section
/-! DEFINITION. Sequences of commands: commands take effect in the order the host presents them, each on the state that the
one before it leaves (R49, 20_memory.md), and the command sequence that loads a record (R110, 42_checksum.md). -/

namespace Sys2Proof.Machine

/-- The commands one after the other (R49). -/
def execSeq : List Instr → State → Result
  | [], s => .next s
  | i :: is, s =>
    match exec i s with
    | .next t => execSeq is t
    | .fault r => .fault r
    | .refused r => .refused r

/-- One CK.ADD for each byte. -/
def addAll (xs : List Byte) : List Instr :=
  xs.map (Instr.ckAdd 0#8)

/-- One CK.REC for each byte. -/
def recAll (xs : List Byte) : List Instr :=
  xs.map (Instr.ckRec 0#8)

/-- CK.CLR, then CK.REC of each byte of a record: the sequence of R110. -/
def recordLoad (r : List Byte) : List Instr :=
  Instr.ckClr 0#16 :: recAll r

end Sys2Proof.Machine
end

