-- ==== Sys2Proof/Safety.lean ====
section
/-! DEFINITION. The terms in which claims are made: what a response leaves as it was, the invariants of R28 (10_state.md),
and the address-free frame of a machine without memory (R40). -/

namespace Sys2Proof.Machine

/-- ACC, POS, STORED and SVALID are the same in both states: the checksum registers of R21 to R24. -/
abbrev SameChecksum (s t : State) : Prop :=
  t.acc = s.acc ∧ t.pos = s.pos ∧ t.stored = s.stored ∧ t.svalid = s.svalid

/-- The model's own fields are the same: what the host will drive, whether a reset edge has occurred, and the edges without
one. -/
abbrev SameOutside (s t : State) : Prop :=
  t.inputs = s.inputs ∧ t.resetSeen = s.resetSeen ∧ t.unresetEdges = s.unresetEdges

/-- The three response registers hold an accepted command's response (R25 to R27). -/
abbrev Responds (t : State) (e : Status) (d : Nat) : Prop :=
  t.lastErr = e ∧ t.dout.toNat = d ∧ t.rvalid = true

/-- The error response (R142): the code, DOUT 0x0000, RVALID 1, and every other register as before the command. -/
abbrev ErrorResponse (e : Status) (s t : State) : Prop :=
  Responds t e 0 ∧ SameChecksum s t ∧ SameOutside s t

/-- The response of a command that completes and changes no checksum register (R80, R48). -/
abbrev PureResponse (d : Nat) (s t : State) : Prop :=
  Responds t .ok d ∧ SameChecksum s t ∧ SameOutside s t

/-- The invariants of R28, with the premise of R165 in front: a reset edge has occurred, the position is within the record, SVALID says whether a byte was captured, STORED is 0x00
without one, and an error comes with DOUT 0x0000. -/
abbrev State.Inv (s : State) : Prop :=
  s.resetSeen = true ∧
  s.pos.toNat ≤ 103 ∧
  (s.svalid = true ↔ 1 ≤ s.pos.toNat) ∧
  (s.svalid = false → s.stored = 0x00#8) ∧
  (s.lastErr ≠ .ok → s.dout = 0x0000#16)

/-- The four commands of the field codec (41_field_codec.md). -/
def isCodec : Instr → Bool
  | .insEnc _ _ => true
  | .insDec _ _ => true
  | .muteEnc _ _ => true
  | .muteDec _ _ => true
  | .nop _ => false
  | .ckClr _ => false
  | .ckAdd _ _ => false
  | .ckRec _ _ => false
  | .ckRd _ => false
  | .ckStat _ => false
  | .reservedAB _ _ => false
  | .reservedCF _ _ => false

/-- The two reading commands CK.RD and CK.STAT (42_checksum.md). -/
def isReadout : Instr → Bool
  | .ckRd _ => true
  | .ckStat _ => true
  | .nop _ => false
  | .insEnc _ _ => false
  | .insDec _ _ => false
  | .muteEnc _ _ => false
  | .muteDec _ _ => false
  | .ckClr _ => false
  | .ckAdd _ _ => false
  | .ckRec _ _ => false
  | .reservedAB _ _ => false
  | .reservedCF _ _ => false

/-- The bytes that the well-formed CK.ADD commands of a sequence carry (R104). -/
def addedBytes (is : List Instr) : List Byte :=
  is.filterMap (fun i =>
    match i with
    | .ckAdd sbz x => if sbz = 0#8 then some x else none
    | _ => none)

/-- The bytes that the well-formed CK.REC commands of a sequence carry (R104). -/
def recordedBytes (is : List Instr) : List Byte :=
  is.filterMap (fun i =>
    match i with
    | .ckRec sbz x => if sbz = 0#8 then some x else none
    | _ => none)

/-- The commands that some edges without reset accept, in the order of the edges (R49, R162). -/
def acceptedCommands (es : List Edge) : List Instr :=
  es.filterMap (fun e => if e.cmdValid then some (decode (packWord e.cmdOp e.cmdArg)) else none)

/-- The status code that R64 and R144 give a command word with opcode `op` and operand `arg` at position `pos`: ILLEGAL first,
then RANGE for an SBZ bit (R61), then RANGE for an operand value, then OVERRUN. -/
def statusRule (op arg pos : Nat) : Nat :=
  if 10 ≤ op then 1
  else if (op = 0 ∨ op = 5 ∨ op = 8 ∨ op = 9) ∧ arg ≠ 0 then 2
  else if op = 1 ∧ arg / 512 ≠ 0 then 2
  else if op = 3 ∧ arg / 16 ≠ 0 then 2
  else if (op = 4 ∨ op = 6 ∨ op = 7) ∧ arg / 256 ≠ 0 then 2
  else if op = 2 ∧ (3 < arg / 256 ∨ 127 < arg % 256) then 2
  else if op = 4 ∧ arg / 16 ≠ 0 then 2
  else if op = 7 ∧ pos = 103 then 3
  else 0

/-- `k` rising edges (R161): the host's own `run` of the machine. -/
def runEdges (k : Nat) (s : State) : Result :=
  Host.Core.run Sys2Proof.core k s

end Sys2Proof.Machine
end

