-- ==== Sys2Proof/Certificates/Slice0/Obligations.lean ====
section
/-! DEFINITION. The statements for the provers. Results are stated in the spec's arithmetic on naturals; "the command completes"
is `∃ t, exec i s = .next t`, for every state. -/

open Sys2Proof Sys2Proof.Machine

/-! ### Encoding (30_encoding.md) -/

/-- No operand bit is dropped: the word of a command decodes to the command, with every field at every value
(R60 to R63). -/
def Obligations.DecodeOfEncode : Prop :=
  ∀ i : Instr, decode (encode i) = i

/-- Every 20-bit word is the word of the command it decodes to (R63: the decoder is total on all 2^20 words). -/
def Obligations.EncodeOfDecode : Prop :=
  ∀ w : CmdWord, encode (decode w) = w

/-- R62 and R63: the opcode `w div 65536` alone selects the command, and every operand is the unsigned number of its bits. -/
def Obligations.OpcodeSelectsCommandAndOperands : Prop :=
  ∀ w : CmdWord,
    (w.toNat / 65536 = 0 → ∃ z, decode w = .nop z ∧ z.toNat = w.toNat % 65536) ∧
    (w.toNat / 65536 = 1 → ∃ z v, decode w = .insEnc z v ∧
      z.toNat = w.toNat % 65536 / 512 ∧ v.toNat = w.toNat % 512) ∧
    (w.toNat / 65536 = 2 → ∃ b0 b1, decode w = .insDec b0 b1 ∧
      b0.toNat = w.toNat % 65536 / 256 ∧ b1.toNat = w.toNat % 256) ∧
    (w.toNat / 65536 = 3 → ∃ z f, decode w = .muteEnc z f ∧
      z.toNat = w.toNat % 65536 / 16 ∧ f.toNat = w.toNat % 16) ∧
    (w.toNat / 65536 = 4 → ∃ z b, decode w = .muteDec z b ∧
      z.toNat = w.toNat % 65536 / 256 ∧ b.toNat = w.toNat % 256) ∧
    (w.toNat / 65536 = 5 → ∃ z, decode w = .ckClr z ∧ z.toNat = w.toNat % 65536) ∧
    (w.toNat / 65536 = 6 → ∃ z x, decode w = .ckAdd z x ∧
      z.toNat = w.toNat % 65536 / 256 ∧ x.toNat = w.toNat % 256) ∧
    (w.toNat / 65536 = 7 → ∃ z x, decode w = .ckRec z x ∧
      z.toNat = w.toNat % 65536 / 256 ∧ x.toNat = w.toNat % 256) ∧
    (w.toNat / 65536 = 8 → ∃ z, decode w = .ckRd z ∧ z.toNat = w.toNat % 65536) ∧
    (w.toNat / 65536 = 9 → ∃ z, decode w = .ckStat z ∧ z.toNat = w.toNat % 65536) ∧
    (w.toNat / 65536 = 10 ∨ w.toNat / 65536 = 11 → ∃ x a, decode w = .reservedAB x a ∧
      x.toNat = w.toNat / 65536 - 10 ∧ a.toNat = w.toNat % 65536) ∧
    (12 ≤ w.toNat / 65536 → ∃ x a, decode w = .reservedCF x a ∧
      x.toNat = w.toNat / 65536 - 12 ∧ a.toNat = w.toNat % 65536)

/-- A few words written out from the encodings of R61 and R63, and what they stand for. -/
def Obligations.WrittenWordsDecode : Prop :=
  decode 0b0000_0000_0000_0000_0000#20 = .nop 0#16 ∧
  decode 0b0001_0000_0001_0010_1100#20 = .insEnc 0#7 300#9 ∧
  decode 0b0010_0000_0010_0010_1100#20 = .insDec 0x02#8 0x2C#8 ∧
  decode 0b0011_0000_0000_0000_0101#20 = .muteEnc 0#12 0b0101#4 ∧
  decode 0b0111_0000_0000_0101_0101#20 = .ckRec 0#8 0x55#8 ∧
  decode 0b1001_0000_0000_0000_0000#20 = .ckStat 0#16 ∧
  decode 0b1010_0000_0000_0000_0000#20 = .reservedAB 0#1 0#16 ∧
  decode 0b1111_0001_0010_0011_0100#20 = .reservedCF 3#2 0x1234#16

/-! ### Rising edges and reset (70_reset_and_hazards.md) -/

/-- R162: at an edge with `rst = 0` and `cmd_valid = 1`, after a reset edge, the step is exactly the command that the word
decodes to; the only thing added around it is that the edge's port samples are used up. `cmd_ready` is always 1. -/
def Obligations.StepRunsDecodedCommand : Prop :=
  ∀ (s : State) (w : CmdWord) (i : Instr) (rest : List Edge),
    s.resetSeen = true → s.inputs = ⟨false, true, opField w, argField w⟩ :: rest → decode w = i →
      step s = exec i (s.withInputs rest) ∧ s.outPorts.cmdReady = true

/-- Once a reset edge has occurred, the command that withFetchWord presents is the one the next step runs, for any 20-bit word
(the model's choice of how a program comes to run: log entry 6). -/
def Obligations.FetchWordRunsNext : Prop :=
  ∀ (s : State) (nbits n : Nat), s.resetSeen = true → 20 ≤ nbits → n < 2 ^ 20 →
    step (s.withFetchWord nbits n) = exec (decode (BitVec.ofNat 20 n)) s

/-- R164, with the premise of R165: an idle edge writes 0 to RVALID and nothing else, whatever `cmd_op` and `cmd_arg` hold. -/
def Obligations.IdleEdgeClearsOnlyRvalid : Prop :=
  ∀ (s : State) (op : OpWord) (arg : ArgWord) (rest : List Edge),
    s.resetSeen = true → s.inputs = ⟨false, false, op, arg⟩ :: rest →
      step s = .next { s with rvalid := false, inputs := rest }

/-- R35: at an edge with `rst = 1` every register takes its reset value, whatever the other ports and the state hold, and the
four checksum registers are then as CK.CLR writes them. -/
def Obligations.ResetEdgeLeavesResetValues : Prop :=
  ∀ (s : State) (v : Bool) (op : OpWord) (arg : ArgWord) (rest : List Edge),
    s.inputs = ⟨true, v, op, arg⟩ :: rest →
      ∃ t, step s = .next t ∧
        t.acc.toNat = 0 ∧ t.pos.toNat = 0 ∧ t.stored.toNat = 0 ∧ t.svalid = false ∧
        t.lastErr.code.toNat = 0 ∧ t.dout.toNat = 0 ∧ t.rvalid = false ∧
        t.resetSeen = true ∧ t.inputs = rest ∧
        ∀ s', ∃ u, exec (.ckClr 0#16) s' = .next u ∧ SameChecksum t u

/-- R166: after a reset edge, whatever stood before it, the very next edge accepts a command and runs it from the reset
values. -/
def Obligations.CommandAcceptedRightAfterReset : Prop :=
  ∀ (s : State) (v : Bool) (op : OpWord) (arg : ArgWord) (w : CmdWord) (rest : List Edge),
    s.inputs = ⟨true, v, op, arg⟩ :: Edge.command w :: rest →
      ∃ t u, step s = .next t ∧ step t = .next u ∧ u.rvalid = true ∧
        exec (decode w) (State.reset.withInputs rest) = .next u

/-- R163: a command's response stands on the ports after its edge, and an idle edge after it leaves `rsp_err` and `rsp_data`
and takes `rsp_valid` to 0: the response is valid for exactly one cycle. -/
def Obligations.ResponseValidForOneCycle : Prop :=
  ∀ (s : State) (w : CmdWord) (op : OpWord) (arg : ArgWord) (rest : List Edge),
    s.resetSeen = true → s.inputs = Edge.command w :: ⟨false, false, op, arg⟩ :: rest →
      ∃ t u, step s = .next t ∧ step t = .next u ∧
        exec (decode w) (s.withInputs (⟨false, false, op, arg⟩ :: rest)) = .next t ∧
        t.outPorts = ⟨true, true, t.lastErr.code, t.dout⟩ ∧
        u.outPorts = ⟨true, false, t.lastErr.code, t.dout⟩

/-- The model's choice (log entry 3; R165 and I1 of 93_implementation_defined.md): before any reset edge a presented command
is refused; an idle edge does not count as a reset edge and uses up the port samples, and of the registers after it nothing
is said. -/
def Obligations.NoCommandBeforeReset : Prop :=
  ∀ (s : State) (v : Bool) (op : OpWord) (arg : ArgWord) (rest : List Edge),
    s.resetSeen = false → s.inputs = ⟨false, v, op, arg⟩ :: rest →
      (v = true → step s = .refused .commandBeforeReset) ∧
      (v = false → ∃ t, step s = .next t ∧ t.resetSeen = false ∧ t.inputs = rest)

/-- R165 and the host's first duty of R167: from any state, at power-up as well, any idle edges and then one edge with `rst = 1`
lead to exactly the reset state, whatever is presented at that edge. No unspecified register value survives it. -/
def Obligations.ResetAfterAnyIdleEdges : Prop :=
  ∀ (es : List Edge) (v : Bool) (op : OpWord) (arg : ArgWord) (rest : List Edge) (s : State),
    (∀ e ∈ es, e.rst = false ∧ e.cmdValid = false) → s.inputs = es ++ ⟨true, v, op, arg⟩ :: rest →
      runEdges (es.length + 1) s = .next (State.reset.withInputs rest)

/-- R9, R162: once a reset edge has occurred every edge gives a next state, whatever the host drives, and any number of them
uses up that many port samples. -/
def Obligations.MachineNeverStopsAfterReset : Prop :=
  ∀ (k : Nat) (s : State), s.resetSeen = true →
    ∃ t, runEdges k s = .next t ∧ t.resetSeen = true ∧ t.inputs = s.inputs.drop k

/-- R168: no hazard. Commands presented at consecutive edges, one per cycle, are the same as the sequence of them: each sees
every write of the ones before it, and nothing stands between them. -/
def Obligations.ConsecutiveCommandsRunInOrder : Prop :=
  ∀ (ws : List CmdWord) (s : State) (rest : List Edge), s.resetSeen = true →
    runEdges ws.length (s.withInputs (ws.map Edge.command ++ rest))
      = execSeq (ws.map decode) (s.withInputs rest)

/-- R49: commands take effect in the order the host presents them, each on the state the one before it left, with any idle
edges between them: the registers end as the sequence of the accepted commands leaves them. -/
def Obligations.CommandsTakeEffectInOrder : Prop :=
  ∀ (es rest : List Edge) (s : State), s.resetSeen = true → (∀ e ∈ es, e.rst = false) →
    s.inputs = es ++ rest →
      ∃ t u, runEdges es.length s = .next t ∧
        execSeq (acceptedCommands es) (s.withInputs rest) = .next u ∧
        SameChecksum u t ∧ t.dout = u.dout ∧ t.lastErr = u.lastErr ∧ t.inputs = rest

/-! ### Control and reserved opcodes (43_control.md) -/

/-- R130. -/
def Obligations.NopResult : Prop :=
  ∀ (z : BitVec 16) (s : State),
    (encode (.nop z)).toNat = z.toNat ∧
    (z = 0#16 → ∃ t, exec (.nop z) s = .next t ∧ PureResponse 0 s t) ∧
    (z ≠ 0#16 → ∃ t, exec (.nop z) s = .next t ∧ ErrorResponse .range s t)

/-- R131: both rows of reserved opcodes raise ILLEGAL on every operand, and they are all the words from 0xA0000 on. -/
def Obligations.ReservedOpcodesAreIllegal : Prop :=
  (∀ (x : BitVec 1) (a : ArgWord) (s : State),
    (encode (.reservedAB x a)).toNat = (10 + x.toNat) * 65536 + a.toNat ∧
    ∃ t, exec (.reservedAB x a) s = .next t ∧ ErrorResponse .illegal s t) ∧
  (∀ (x : BitVec 2) (a : ArgWord) (s : State),
    (encode (.reservedCF x a)).toNat = (12 + x.toNat) * 65536 + a.toNat ∧
    ∃ t, exec (.reservedCF x a) s = .next t ∧ ErrorResponse .illegal s t) ∧
  (∀ (w : CmdWord) (s : State), 0xA0000 ≤ w.toNat →
    ∃ t, exec (decode w) s = .next t ∧ ErrorResponse .illegal s t)

/-! ### Bit-packed field codec (41_field_codec.md) -/

/-- R81. -/
def Obligations.InsEncResult : Prop :=
  ∀ (z : BitVec 7) (v : InsNumber) (s : State),
    (encode (.insEnc z v)).toNat = 0x10000 + z.toNat * 512 + v.toNat ∧
    (z = 0#7 → ∃ t, exec (.insEnc z v) s = .next t ∧
      PureResponse (v.toNat / 128 * 256 + v.toNat % 128) s t) ∧
    (z ≠ 0#7 → ∃ t, exec (.insEnc z v) s = .next t ∧ ErrorResponse .range s t)

/-- R82. -/
def Obligations.InsDecResult : Prop :=
  ∀ (b0 b1 : Byte) (s : State),
    (encode (.insDec b0 b1)).toNat = 0x20000 + b0.toNat * 256 + b1.toNat ∧
    (b0.toNat ≤ 3 ∧ b1.toNat ≤ 127 → ∃ t, exec (.insDec b0 b1) s = .next t ∧
      PureResponse (b0.toNat * 128 + b1.toNat) s t) ∧
    (3 < b0.toNat ∨ 127 < b1.toNat → ∃ t, exec (.insDec b0 b1) s = .next t ∧
      ErrorResponse .range s t)

/-- R83. -/
def Obligations.MuteEncResult : Prop :=
  ∀ (z : BitVec 12) (f : ActiveFlags) (s : State),
    (encode (.muteEnc z f)).toNat = 0x30000 + z.toNat * 16 + f.toNat ∧
    (z = 0#12 → ∃ t, exec (.muteEnc z f) s = .next t ∧ PureResponse f.toNat s t) ∧
    (z ≠ 0#12 → ∃ t, exec (.muteEnc z f) s = .next t ∧ ErrorResponse .range s t)

/-- R84. -/
def Obligations.MuteDecResult : Prop :=
  ∀ (z : BitVec 8) (b : Byte) (s : State),
    (encode (.muteDec z b)).toNat = 0x40000 + z.toNat * 256 + b.toNat ∧
    (z = 0#8 ∧ b.toNat / 16 = 0 → ∃ t, exec (.muteDec z b) s = .next t ∧
      PureResponse (b.toNat % 16) s t) ∧
    (z ≠ 0#8 ∨ b.toNat / 16 ≠ 0 → ∃ t, exec (.muteDec z b) s = .next t ∧
      ErrorResponse .range s t)

/-- R87: the inverse laws, each second command presented with the first one's DOUT as its operand, on the state the first one
left; outside these domains the decoders raise RANGE. -/
def Obligations.CodecInverseLaws : Prop :=
  (∀ (v : InsNumber) (s : State), ∃ t u,
    exec (.insEnc 0#7 v) s = .next t ∧ t.lastErr = .ok ∧
    exec (decode (packWord 0x2#4 t.dout)) t = .next u ∧ u.lastErr = .ok ∧ u.dout.toNat = v.toNat) ∧
  (∀ (b0 b1 : Byte) (s : State), b0.toNat ≤ 3 → b1.toNat ≤ 127 → ∃ t u,
    exec (.insDec b0 b1) s = .next t ∧ t.lastErr = .ok ∧
    exec (decode (packWord 0x1#4 t.dout)) t = .next u ∧ u.lastErr = .ok ∧ u.dout = b0 ++ b1) ∧
  (∀ (f : ActiveFlags) (s : State), ∃ t u,
    exec (.muteEnc 0#12 f) s = .next t ∧ t.lastErr = .ok ∧
    exec (decode (packWord 0x4#4 t.dout)) t = .next u ∧ u.lastErr = .ok ∧ u.dout.toNat = f.toNat) ∧
  (∀ (b : Byte) (s : State), b.toNat ≤ 0x0F → ∃ t u,
    exec (.muteDec 0#8 b) s = .next t ∧ t.lastErr = .ok ∧
    exec (decode (packWord 0x3#4 t.dout)) t = .next u ∧ u.lastErr = .ok ∧ u.dout.toNat = b.toNat) ∧
  (∀ (b0 b1 : Byte) (s : State), 3 < b0.toNat ∨ 127 < b1.toNat →
    ∃ t, exec (.insDec b0 b1) s = .next t ∧ t.lastErr = .range ∧ t.dout.toNat = 0) ∧
  (∀ (b : Byte) (s : State), 0x0F < b.toNat →
    ∃ t, exec (.muteDec 0#8 b) s = .next t ∧ t.lastErr = .range ∧ t.dout.toNat = 0)

/-- R86: bit `i` of the active flags is bit `i` of the mute byte in both directions; no bit is inverted or moved, and the rest
of the response data is 0. -/
def Obligations.MutePolarityPreserved : Prop :=
  (∀ (f : ActiveFlags) (s : State), ∃ t, exec (.muteEnc 0#12 f) s = .next t ∧
    ∀ i, t.dout.getLsbD i = (decide (i < 4) && f.getLsbD i)) ∧
  (∀ (b : Byte) (s : State), b.toNat ≤ 0x0F → ∃ t, exec (.muteDec 0#8 b) s = .next t ∧
    ∀ i, t.dout.getLsbD i = (decide (i < 4) && b.getLsbD i))

/-- R80: a codec command is a pure function of its operand. It completes in every state, its response is the same in any
two states, it changes no checksum register, and the only error it has is the RANGE response of R142. -/
def Obligations.CodecCommandsArePure : Prop :=
  ∀ (i : Instr) (s s' : State), isCodec i = true →
    ∃ t t', exec i s = .next t ∧ exec i s' = .next t' ∧
      t'.dout = t.dout ∧ t'.lastErr = t.lastErr ∧ t'.rvalid = t.rvalid ∧
      (PureResponse t.dout.toNat s t ∨ ErrorResponse .range s t)

/-! ### Checksum (42_checksum.md) -/

/-- R105. -/
def Obligations.CkClrResult : Prop :=
  ∀ (z : BitVec 16) (s : State),
    (encode (.ckClr z)).toNat = 0x50000 + z.toNat ∧
    (z = 0#16 → ∃ t, exec (.ckClr z) s = .next t ∧ Responds t .ok 0x0025 ∧
      t.acc.toNat = 0 ∧ t.pos.toNat = 0 ∧ t.stored.toNat = 0 ∧ t.svalid = false ∧ SameOutside s t) ∧
    (z ≠ 0#16 → ∃ t, exec (.ckClr z) s = .next t ∧ ErrorResponse .range s t)

/-- R106. -/
def Obligations.CkAddResult : Prop :=
  ∀ (z : BitVec 8) (x : Byte) (s : State),
    (encode (.ckAdd z x)).toNat = 0x60000 + z.toNat * 256 + x.toNat ∧
    (z = 0#8 → ∃ t, exec (.ckAdd z x) s = .next t ∧
      t.acc.toNat = (s.acc.toNat + x.toNat) % 128 ∧
      Responds t .ok ((s.acc.toNat + x.toNat + 0xA5) &&& 0x7F) ∧
      t.pos = s.pos ∧ t.stored = s.stored ∧ t.svalid = s.svalid ∧ SameOutside s t) ∧
    (z ≠ 0#8 → ∃ t, exec (.ckAdd z x) s = .next t ∧ ErrorResponse .range s t)

/-- R107, for the legal positions 0..103 (R22): RANGE before OVERRUN, position 0 captured, every later byte summed. -/
def Obligations.CkRecResult : Prop :=
  ∀ (z : BitVec 8) (x : Byte) (s : State),
    (encode (.ckRec z x)).toNat = 0x70000 + z.toNat * 256 + x.toNat ∧
    (z ≠ 0#8 → ∃ t, exec (.ckRec z x) s = .next t ∧ ErrorResponse .range s t) ∧
    (z = 0#8 ∧ s.pos.toNat = 103 →
      ∃ t, exec (.ckRec z x) s = .next t ∧ ErrorResponse .overrun s t) ∧
    (z = 0#8 ∧ s.pos.toNat = 0 → ∃ t, exec (.ckRec z x) s = .next t ∧
      t.stored = x ∧ t.svalid = true ∧ t.acc = s.acc ∧ t.pos.toNat = 1 ∧
      Responds t .ok ((s.acc.toNat + 0xA5) &&& 0x7F) ∧ SameOutside s t) ∧
    (z = 0#8 ∧ 1 ≤ s.pos.toNat ∧ s.pos.toNat ≤ 102 → ∃ t, exec (.ckRec z x) s = .next t ∧
      t.stored = s.stored ∧ t.svalid = s.svalid ∧
      t.acc.toNat = (s.acc.toNat + x.toNat) % 128 ∧ t.pos.toNat = s.pos.toNat + 1 ∧
      Responds t .ok ((s.acc.toNat + x.toNat + 0xA5) &&& 0x7F) ∧ SameOutside s t)

/-- R108. -/
def Obligations.CkRdResult : Prop :=
  ∀ (z : BitVec 16) (s : State),
    (encode (.ckRd z)).toNat = 0x80000 + z.toNat ∧
    (z = 0#16 → ∃ t, exec (.ckRd z) s = .next t ∧
      PureResponse ((s.acc.toNat + 0xA5) &&& 0x7F) s t) ∧
    (z ≠ 0#16 → ∃ t, exec (.ckRd z) s = .next t ∧ ErrorResponse .range s t)

/-- R109. -/
def Obligations.CkStatResult : Prop :=
  ∀ (z : BitVec 16) (s : State),
    (encode (.ckStat z)).toNat = 0x90000 + z.toNat ∧
    (z = 0#16 → ∃ t, exec (.ckStat z) s = .next t ∧
      PureResponse (s.stored.toNat * 256 + s.svalid.toNat * 128 + s.pos.toNat) s t) ∧
    (z ≠ 0#16 → ∃ t, exec (.ckStat z) s = .next t ∧ ErrorResponse .range s t)

/-- R153: CK.RD and CK.STAT show every checksum register; ACC is the shown checksum less 0x25, modulo 128. -/
def Obligations.ReadoutsShowEveryChecksumRegister : Prop :=
  ∀ s : State, ∃ t u, exec (.ckRd 0#16) s = .next t ∧ exec (.ckStat 0#16) s = .next u ∧
    s.acc.toNat = (t.dout.toNat + 128 - 0x25) % 128 ∧
    s.stored.toNat = u.dout.toNat / 256 ∧
    s.svalid.toNat = u.dout.toNat / 128 % 2 ∧
    s.pos.toNat = u.dout.toNat % 128

/-- R101: however many bytes are added one at a time, CK.RD shows the exact sum plus 0xA5, masked, which is `ckval` of the
sum modulo 128. -/
def Obligations.ModularSumIsExactChecksum : Prop :=
  ∀ (xs : List Byte) (s : State),
    (byteSum xs + 0xA5) &&& 0x7F = (ckval (BitVec.ofNat 7 (byteSum xs % 128))).toNat ∧
    ∃ t, execSeq (.ckClr 0#16 :: (addAll xs ++ [.ckRd 0#16])) s = .next t ∧
      t.acc.toNat = byteSum xs % 128 ∧ Responds t .ok ((byteSum xs + 0xA5) &&& 0x7F)

/-- R102: bit 7 of an input byte never changes the checksum, and no byte is rejected for it. -/
def Obligations.InputBit7NeverChangesChecksum : Prop :=
  ∀ (x : Byte) (s : State),
    (∃ t, exec (.ckAdd 0#8 x) s = .next t ∧ t.lastErr = .ok ∧
      exec (.ckAdd 0#8 (x ^^^ 0x80#8)) s = .next t) ∧
    (s.pos.toNat ≠ 103 → ∃ t t', exec (.ckRec 0#8 x) s = .next t ∧
      exec (.ckRec 0#8 (x ^^^ 0x80#8)) s = .next t' ∧ t.lastErr = .ok ∧ t'.lastErr = .ok ∧
      t'.acc = t.acc ∧ t'.dout = t.dout)

/-- R103: the checksum depends only on the multiset of the bytes summed, not on their order, and not on where the boundary
between the two regions lies. -/
def Obligations.ChecksumIgnoresOrderAndBoundary : Prop :=
  (∀ (xs ys : List Byte) (s : State), xs.Perm ys → execSeq (addAll xs) s = execSeq (addAll ys) s) ∧
  (∀ (r r' : List Byte) (s : State), r.length = 103 → r'.length = 103 → r.tail.Perm r'.tail →
    ∃ t t', execSeq (recordLoad r ++ [.ckRd 0#16]) s = .next t ∧
      execSeq (recordLoad r' ++ [.ckRd 0#16]) s = .next t' ∧ t'.dout = t.dout) ∧
  (∀ (r : List Byte) (k : Nat), r.length = 103 →
    (byteSum (r.tail.take k) + byteSum (r.tail.drop k) + 0xA5) &&& 0x7F = recordChecksum r)

/-- R104, with R21 to R24: after CK.CLR and then any commands at all but another completed CK.CLR, ACC is the sum modulo 128 of
every CK.ADD byte and of every CK.REC byte at positions 1..102, POS counts the CK.REC bytes accepted, and STORED and
SVALID hold the first of them. -/
def Obligations.RegistersSinceClear : Prop :=
  ∀ (is : List Instr) (s : State), Instr.ckClr 0#16 ∉ is →
    ∃ t, execSeq (.ckClr 0#16 :: is) s = .next t ∧
      t.acc.toNat = (byteSum (addedBytes is) + byteSum (((recordedBytes is).drop 1).take 102)) % 128 ∧
      t.pos.toNat = min 103 (recordedBytes is).length ∧
      t.stored = (recordedBytes is).headD 0x00#8 ∧
      (t.svalid = true ↔ recordedBytes is ≠ [])

/-- R110: the whole-record law. -/
def Obligations.WholeRecordLaw : Prop :=
  ∀ (r : List Byte) (s : State), r.length = 103 →
    (∀ k, 1 ≤ k → k ≤ 104 → ∃ m, execSeq ((recordLoad r).take k) s = .next m ∧ m.lastErr = .ok) ∧
    ∃ t u, execSeq (recordLoad r) s = .next t ∧
      t.acc.toNat = byteSum r.tail % 128 ∧ t.pos.toNat = 103 ∧ some t.stored = r.head? ∧
      t.svalid = true ∧
      exec (.ckRd 0#16) t = .next u ∧ Responds u .ok (recordChecksum r)

/-- R111: two records that differ only in `r[0]` have the same CK.RD result after the sequence of R110, and the states they
start from do not matter. -/
def Obligations.ChecksumByteExcludedFromItself : Prop :=
  ∀ (x y : Byte) (rest : List Byte) (s s' : State), rest.length = 102 →
    ∃ t t', execSeq (recordLoad (x :: rest) ++ [.ckRd 0#16]) s = .next t ∧
      execSeq (recordLoad (y :: rest) ++ [.ckRd 0#16]) s' = .next t' ∧
      t.lastErr = .ok ∧ t'.lastErr = .ok ∧ t'.dout = t.dout

/-- R41: CK.REC numbers the bytes by arrival; the byte at position 0 is captured and not summed, those of the two data regions are
summed, past them there is no region; the regions have 1, 54 and 48 bytes and make the whole record. -/
def Obligations.RecordPositionsAndRegions : Prop :=
  (∀ (x : Byte) (s : State), regionOf s.pos.toNat = some .checksumByte →
    ∃ t, exec (.ckRec 0#8 x) s = .next t ∧ t.stored = x ∧ t.acc = s.acc ∧
      t.pos.toNat = s.pos.toNat + 1) ∧
  (∀ (x : Byte) (s : State),
    regionOf s.pos.toNat = some .commonData ∨ regionOf s.pos.toNat = some .sectionData →
    ∃ t, exec (.ckRec 0#8 x) s = .next t ∧ t.stored = s.stored ∧
      t.acc.toNat = (s.acc.toNat + x.toNat) % 128 ∧ t.pos.toNat = s.pos.toNat + 1) ∧
  (∀ p : Nat, (regionOf p = some .checksumByte ↔ p = 0) ∧
    (regionOf p = some .commonData ↔ 1 ≤ p ∧ p ≤ 54) ∧
    (regionOf p = some .sectionData ↔ 55 ≤ p ∧ p ≤ 102)) ∧
  (∀ r : List Byte, r.length = 103 →
    (commonData r).length = 54 ∧ (sectionData r).length = 48 ∧
      r = r.take 1 ++ commonData r ++ sectionData r)

/-- R169, R110: presented at 105 consecutive edges, CK.CLR, the 103 bytes of a record and CK.RD leave the record's checksum on
the response ports. -/
def Obligations.RecordChecksumAfter105Edges : Prop :=
  ∀ (r : List Byte) (s : State) (rest : List Edge), r.length = 103 → s.resetSeen = true →
    s.inputs = (recordLoad r ++ [Instr.ckRd 0#16]).map (fun i => Edge.command (encode i)) ++ rest →
      ∃ t, runEdges 105 s = .next t ∧ t.outPorts.rspValid = true ∧ t.outPorts.rspErr.toNat = 0 ∧
        t.outPorts.rspData.toNat = recordChecksum r ∧ t.inputs = rest

/-! ### Errors (60_exceptions.md) -/

/-- R142: a command that reports an error writes exactly the three response registers, in every state. -/
def Obligations.ErrorsArePrecise : Prop :=
  ∀ (i : Instr) (s : State), ∃ t, exec i s = .next t ∧
    (t.lastErr ≠ .ok → ErrorResponse t.lastErr s t)

/-- R64, R144: the status code of every word in every state, with the priority ILLEGAL, RANGE, OVERRUN. -/
def Obligations.StatusOfEveryCommandWord : Prop :=
  ∀ (w : CmdWord) (s : State), ∃ t, exec (decode w) s = .next t ∧
    t.lastErr.code.toNat = statusRule (w.toNat / 65536) (w.toNat % 65536) s.pos.toNat

/-- R9, R25 to R27: every command completes in every state, answers at once, and leaves what the host drives alone. -/
def Obligations.EveryCommandAnswers : Prop :=
  ∀ (i : Instr) (s : State), ∃ t, exec i s = .next t ∧ t.rvalid = true ∧ SameOutside s t

/-- R147: an error is not sticky. After a command that reports an error, any command does exactly what it would have done
without it. -/
def Obligations.ErrorsAreNotSticky : Prop :=
  ∀ (i j : Instr) (s t : State), exec i s = .next t → t.lastErr ≠ .ok →
    exec j t = exec j s ∧ ∃ u, exec j t = .next u

/-- R31, R112: no command reads a response register. Two states with the same checksum registers get the same response and
end with the same checksum registers. -/
def Obligations.NoCommandReadsResponseRegisters : Prop :=
  ∀ (i : Instr) (s s' : State), SameChecksum s s' →
    ∃ t t', exec i s = .next t ∧ exec i s' = .next t' ∧ SameChecksum t t' ∧
      t'.dout = t.dout ∧ t'.lastErr = t.lastErr ∧ t'.rvalid = t.rvalid

/-- R48: NOP, the codec commands, CK.RD and CK.STAT have no side effect on the checksum registers, with any operand, and a
repetition gives the same response; CK.CLR is idempotent. -/
def Obligations.RepeatableCommands : Prop :=
  (∀ (i : Instr) (s : State), isCodec i = true ∨ isReadout i = true ∨ (∃ z, i = .nop z) →
    ∃ t, exec i s = .next t ∧ SameChecksum s t ∧ exec i t = .next t) ∧
  (∀ (z : BitVec 16) (s : State), ∃ t, exec (.ckClr z) s = .next t ∧ exec (.ckClr z) t = .next t)

/-- R21 to R24, R32: each checksum register is changed only by the commands its rule names. -/
def Obligations.OnlyNamedCommandsWriteChecksum : Prop :=
  ∀ (i : Instr) (s : State), ∃ t, exec i s = .next t ∧
    (t.acc ≠ s.acc → i = .ckClr 0#16 ∨ ∃ x, i = .ckAdd 0#8 x ∨ (i = .ckRec 0#8 x ∧ s.pos.toNat ≠ 0)) ∧
    (t.pos ≠ s.pos → i = .ckClr 0#16 ∨ ∃ x, i = .ckRec 0#8 x) ∧
    (t.stored ≠ s.stored → i = .ckClr 0#16 ∨ (i = .ckRec 0#8 t.stored ∧ s.pos.toNat = 0)) ∧
    (t.svalid ≠ s.svalid → i = .ckClr 0#16 ∨ ∃ x, i = .ckRec 0#8 x ∧ s.pos.toNat = 0)

/-- R9, R64: a command that is not well formed reports an error, and a well-formed one reports ILLEGAL never, RANGE only for
an operand value of INS.DEC or MUTE.DEC, and OVERRUN only for CK.REC at POS = 103. -/
def Obligations.WellFormedCommandsAndErrors : Prop :=
  ∀ (i : Instr) (s : State), ∃ t, exec i s = .next t ∧
    (i.wellFormed = false → t.lastErr ≠ .ok) ∧
    (i.wellFormed = true → t.lastErr ≠ .illegal ∧
      (t.lastErr = .range → (∃ b0 b1, i = .insDec b0 b1) ∨ ∃ b, i = .muteDec 0#8 b) ∧
      (t.lastErr = .overrun → (∃ x, i = .ckRec 0#8 x) ∧ s.pos.toNat = 103))

/-! ### Invariants (10_state.md) -/

/-- R28: every step keeps the invariants, from every state that has them; that a reset edge has occurred, the premise R165 asks
for, is one of them. -/
def Obligations.StepKeepsInvariants : Prop :=
  ∀ s t : State, s.Inv → step s = .next t → t.Inv

/-- R28: the state after reset has the invariants. -/
def Obligations.ResetHasInvariants : Prop :=
  State.reset.Inv

/-- R28: from reset until the first accepted command, DOUT, LAST_ERR and RVALID keep their reset values, whatever else the
host drives. -/
def Obligations.QuietUntilFirstCommand : Prop :=
  ∀ (es rest : List Edge) (s : State), (∀ e ∈ es, e.rst = true ∨ e.cmdValid = false) →
    s.resetSeen = true → s.inputs = es ++ rest → s.dout = 0x0000#16 → s.lastErr = .ok → s.rvalid = false →
      ∃ t, runEdges es.length s = .next t ∧
        t.dout = 0x0000#16 ∧ t.lastErr = .ok ∧ t.rvalid = false ∧ t.inputs = rest

/-! ### Assembler (30_encoding.md) -/

/-- R67: the word of every form, and the refusal of an operand outside its range. -/
def Obligations.AssemblerForms : Prop :=
  assemble .nop = some [0x00000#20] ∧ assemble .ckClr = some [0x50000#20] ∧
  assemble .ckRd = some [0x80000#20] ∧ assemble .ckStat = some [0x90000#20] ∧
  (∀ v, assemble (.insEnc v) = if v ≤ 511 then some [BitVec.ofNat 20 (0x10000 + v)] else none) ∧
  (∀ b0 b1, assemble (.insDec b0 b1) =
    if b0 ≤ 255 ∧ b1 ≤ 255 then some [BitVec.ofNat 20 (0x20000 + 256 * b0 + b1)] else none) ∧
  (∀ f, assemble (.muteEnc f) = if f ≤ 15 then some [BitVec.ofNat 20 (0x30000 + f)] else none) ∧
  (∀ b, assemble (.muteDec b) = if b ≤ 255 then some [BitVec.ofNat 20 (0x40000 + b)] else none) ∧
  (∀ x, assemble (.ckAdd x) = if x ≤ 255 then some [BitVec.ofNat 20 (0x60000 + x)] else none) ∧
  (∀ x, assemble (.ckRec x) = if x ≤ 255 then some [BitVec.ofNat 20 (0x70000 + x)] else none) ∧
  (∀ w, assemble (.word w) = if w < 2 ^ 20 then some [BitVec.ofNat 20 w] else none)

/-- R67: without `.word` the assembler writes well-formed commands only. -/
def Obligations.AssemblerWritesWellFormed : Prop :=
  ∀ (l : AsmLine) (ws : List CmdWord) (w : CmdWord),
    assemble l = some ws → (∀ n, l ≠ .word n) → w ∈ ws → (decode w).wellFormed = true

/-- R68: each pseudo-instruction with its expansion. -/
def Obligations.PseudoInstructionExpansions : Prop :=
  (∀ ss : List Nat, ss ≠ [] → ss.Nodup → (∀ x ∈ ss, 1 ≤ x ∧ x ≤ 4) →
    ∃ f, f = (ss.map (fun x => 2 ^ (x - 1))).sum ∧ f ≤ 15 ∧
      assemble (.muteActive ss) = assemble (.muteEnc f) ∧
      (assemble (.muteEnc f)).isSome = true ∧
      ∀ x, 1 ≤ x → x ≤ 4 → f.testBit (x - 1) = decide (x ∈ ss)) ∧
  assemble (.muteActive [1, 3]) = some [0x30005#20] ∧
  assemble .muteNone = assemble (.muteEnc 0) ∧
  assemble .muteAll = assemble (.muteEnc 15) ∧
  (∀ xs : List Nat, xs ≠ [] → (∀ x ∈ xs, x ≤ 255) →
    assemble (.ckSum xs) =
      some (0x50000#20 :: (xs.map (fun x => BitVec.ofNat 20 (0x60000 + x)) ++ [0x80000#20]))) ∧
  (∀ rs : List Nat, rs.length = 103 → (∀ x ∈ rs, x ≤ 255) →
    assemble (.ckRecord rs) =
      some (0x50000#20 :: (rs.map (fun x => BitVec.ofNat 20 (0x70000 + x))
        ++ [0x80000#20, 0x90000#20])))
end

