-- ==== Sys2Proof/Laws/Assembler.lean ====
section
/-! SUPPORT. When the assembler accepts the operands of a line (R67, R68). -/

namespace Sys2Proof.Machine

theorem allBytes_iff (xs : List Nat) : allBytes xs = true ↔ ∀ x ∈ xs, x < 256 := by
  simp [allBytes]

theorem sectionsOk_iff (ss : List Nat) :
    sectionsOk ss = true ↔ (∀ x ∈ ss, 1 ≤ x ∧ x ≤ 4) ∧ ss.Nodup := by
  simp [sectionsOk]

theorem commandWord_of_lt {n : Nat} (h : n < 2 ^ 20) : commandWord n = .ok (BitVec.ofNat 20 n) :=
  if_pos h

theorem commandWord_of_ge {n : Nat} (h : ¬ n < 2 ^ 20) : commandWord n = .error .widerThanCommandWord :=
  if_neg h

end Sys2Proof.Machine
end

