-- ==== Sys2Proof/Laws/State.lean ====
section
/-! SUPPORT. One lemma per field per update of the state, each true by `rfl`, so that no proof unfolds a record update. -/

namespace Sys2Proof.Machine

/-! `State.respond` -/

@[simp] theorem State.respond_acc (s : State) (e : Status) (d : DataWord) :
    (s.respond e d).acc = s.acc := rfl
@[simp] theorem State.respond_pos (s : State) (e : Status) (d : DataWord) :
    (s.respond e d).pos = s.pos := rfl
@[simp] theorem State.respond_stored (s : State) (e : Status) (d : DataWord) :
    (s.respond e d).stored = s.stored := rfl
@[simp] theorem State.respond_svalid (s : State) (e : Status) (d : DataWord) :
    (s.respond e d).svalid = s.svalid := rfl
@[simp] theorem State.respond_lastErr (s : State) (e : Status) (d : DataWord) :
    (s.respond e d).lastErr = e := rfl
@[simp] theorem State.respond_dout (s : State) (e : Status) (d : DataWord) :
    (s.respond e d).dout = d := rfl
@[simp] theorem State.respond_rvalid (s : State) (e : Status) (d : DataWord) :
    (s.respond e d).rvalid = true := rfl
@[simp] theorem State.respond_resetSeen (s : State) (e : Status) (d : DataWord) :
    (s.respond e d).resetSeen = s.resetSeen := rfl
@[simp] theorem State.respond_unresetEdges (s : State) (e : Status) (d : DataWord) :
    (s.respond e d).unresetEdges = s.unresetEdges := rfl
@[simp] theorem State.respond_inputs (s : State) (e : Status) (d : DataWord) :
    (s.respond e d).inputs = s.inputs := rfl

/-! `State.clearChecksum` -/

@[simp] theorem State.clearChecksum_acc (s : State) :
    s.clearChecksum.acc = 0#7 := rfl
@[simp] theorem State.clearChecksum_pos (s : State) :
    s.clearChecksum.pos = 0#7 := rfl
@[simp] theorem State.clearChecksum_stored (s : State) :
    s.clearChecksum.stored = 0x00#8 := rfl
@[simp] theorem State.clearChecksum_svalid (s : State) :
    s.clearChecksum.svalid = false := rfl
@[simp] theorem State.clearChecksum_lastErr (s : State) :
    s.clearChecksum.lastErr = s.lastErr := rfl
@[simp] theorem State.clearChecksum_dout (s : State) :
    s.clearChecksum.dout = s.dout := rfl
@[simp] theorem State.clearChecksum_rvalid (s : State) :
    s.clearChecksum.rvalid = s.rvalid := rfl
@[simp] theorem State.clearChecksum_resetSeen (s : State) :
    s.clearChecksum.resetSeen = s.resetSeen := rfl
@[simp] theorem State.clearChecksum_unresetEdges (s : State) :
    s.clearChecksum.unresetEdges = s.unresetEdges := rfl
@[simp] theorem State.clearChecksum_inputs (s : State) :
    s.clearChecksum.inputs = s.inputs := rfl

/-! `State.setAcc` -/

@[simp] theorem State.setAcc_acc (s : State) (a : Sum7) :
    (s.setAcc a).acc = a := rfl
@[simp] theorem State.setAcc_pos (s : State) (a : Sum7) :
    (s.setAcc a).pos = s.pos := rfl
@[simp] theorem State.setAcc_stored (s : State) (a : Sum7) :
    (s.setAcc a).stored = s.stored := rfl
@[simp] theorem State.setAcc_svalid (s : State) (a : Sum7) :
    (s.setAcc a).svalid = s.svalid := rfl
@[simp] theorem State.setAcc_lastErr (s : State) (a : Sum7) :
    (s.setAcc a).lastErr = s.lastErr := rfl
@[simp] theorem State.setAcc_dout (s : State) (a : Sum7) :
    (s.setAcc a).dout = s.dout := rfl
@[simp] theorem State.setAcc_rvalid (s : State) (a : Sum7) :
    (s.setAcc a).rvalid = s.rvalid := rfl
@[simp] theorem State.setAcc_resetSeen (s : State) (a : Sum7) :
    (s.setAcc a).resetSeen = s.resetSeen := rfl
@[simp] theorem State.setAcc_unresetEdges (s : State) (a : Sum7) :
    (s.setAcc a).unresetEdges = s.unresetEdges := rfl
@[simp] theorem State.setAcc_inputs (s : State) (a : Sum7) :
    (s.setAcc a).inputs = s.inputs := rfl

/-! `State.capture` -/

@[simp] theorem State.capture_acc (s : State) (x : Byte) :
    (s.capture x).acc = s.acc := rfl
@[simp] theorem State.capture_pos (s : State) (x : Byte) :
    (s.capture x).pos = s.pos := rfl
@[simp] theorem State.capture_stored (s : State) (x : Byte) :
    (s.capture x).stored = x := rfl
@[simp] theorem State.capture_svalid (s : State) (x : Byte) :
    (s.capture x).svalid = true := rfl
@[simp] theorem State.capture_lastErr (s : State) (x : Byte) :
    (s.capture x).lastErr = s.lastErr := rfl
@[simp] theorem State.capture_dout (s : State) (x : Byte) :
    (s.capture x).dout = s.dout := rfl
@[simp] theorem State.capture_rvalid (s : State) (x : Byte) :
    (s.capture x).rvalid = s.rvalid := rfl
@[simp] theorem State.capture_resetSeen (s : State) (x : Byte) :
    (s.capture x).resetSeen = s.resetSeen := rfl
@[simp] theorem State.capture_unresetEdges (s : State) (x : Byte) :
    (s.capture x).unresetEdges = s.unresetEdges := rfl
@[simp] theorem State.capture_inputs (s : State) (x : Byte) :
    (s.capture x).inputs = s.inputs := rfl

/-! `State.advance` -/

@[simp] theorem State.advance_acc (s : State) :
    s.advance.acc = s.acc := rfl
@[simp] theorem State.advance_pos (s : State) :
    s.advance.pos = s.pos + 1#7 := rfl
@[simp] theorem State.advance_stored (s : State) :
    s.advance.stored = s.stored := rfl
@[simp] theorem State.advance_svalid (s : State) :
    s.advance.svalid = s.svalid := rfl
@[simp] theorem State.advance_lastErr (s : State) :
    s.advance.lastErr = s.lastErr := rfl
@[simp] theorem State.advance_dout (s : State) :
    s.advance.dout = s.dout := rfl
@[simp] theorem State.advance_rvalid (s : State) :
    s.advance.rvalid = s.rvalid := rfl
@[simp] theorem State.advance_resetSeen (s : State) :
    s.advance.resetSeen = s.resetSeen := rfl
@[simp] theorem State.advance_unresetEdges (s : State) :
    s.advance.unresetEdges = s.unresetEdges := rfl
@[simp] theorem State.advance_inputs (s : State) :
    s.advance.inputs = s.inputs := rfl

/-! `State.withInputs` -/

@[simp] theorem State.withInputs_acc (s : State) (es : List Edge) :
    (s.withInputs es).acc = s.acc := rfl
@[simp] theorem State.withInputs_pos (s : State) (es : List Edge) :
    (s.withInputs es).pos = s.pos := rfl
@[simp] theorem State.withInputs_stored (s : State) (es : List Edge) :
    (s.withInputs es).stored = s.stored := rfl
@[simp] theorem State.withInputs_svalid (s : State) (es : List Edge) :
    (s.withInputs es).svalid = s.svalid := rfl
@[simp] theorem State.withInputs_lastErr (s : State) (es : List Edge) :
    (s.withInputs es).lastErr = s.lastErr := rfl
@[simp] theorem State.withInputs_dout (s : State) (es : List Edge) :
    (s.withInputs es).dout = s.dout := rfl
@[simp] theorem State.withInputs_rvalid (s : State) (es : List Edge) :
    (s.withInputs es).rvalid = s.rvalid := rfl
@[simp] theorem State.withInputs_resetSeen (s : State) (es : List Edge) :
    (s.withInputs es).resetSeen = s.resetSeen := rfl
@[simp] theorem State.withInputs_unresetEdges (s : State) (es : List Edge) :
    (s.withInputs es).unresetEdges = s.unresetEdges := rfl
@[simp] theorem State.withInputs_inputs (s : State) (es : List Edge) :
    (s.withInputs es).inputs = es := rfl

/-! `State.takeEdge` -/

@[simp] theorem State.takeEdge_acc (s : State) :
    s.takeEdge.acc = s.acc := rfl
@[simp] theorem State.takeEdge_pos (s : State) :
    s.takeEdge.pos = s.pos := rfl
@[simp] theorem State.takeEdge_stored (s : State) :
    s.takeEdge.stored = s.stored := rfl
@[simp] theorem State.takeEdge_svalid (s : State) :
    s.takeEdge.svalid = s.svalid := rfl
@[simp] theorem State.takeEdge_lastErr (s : State) :
    s.takeEdge.lastErr = s.lastErr := rfl
@[simp] theorem State.takeEdge_dout (s : State) :
    s.takeEdge.dout = s.dout := rfl
@[simp] theorem State.takeEdge_rvalid (s : State) :
    s.takeEdge.rvalid = s.rvalid := rfl
@[simp] theorem State.takeEdge_resetSeen (s : State) :
    s.takeEdge.resetSeen = s.resetSeen := rfl
@[simp] theorem State.takeEdge_unresetEdges (s : State) :
    s.takeEdge.unresetEdges = s.unresetEdges := rfl
@[simp] theorem State.takeEdge_inputs (s : State) :
    s.takeEdge.inputs = s.inputs.tail := rfl

/-! `State.idleEdge` -/

@[simp] theorem State.idleEdge_acc (s : State) :
    s.idleEdge.acc = s.acc := rfl
@[simp] theorem State.idleEdge_pos (s : State) :
    s.idleEdge.pos = s.pos := rfl
@[simp] theorem State.idleEdge_stored (s : State) :
    s.idleEdge.stored = s.stored := rfl
@[simp] theorem State.idleEdge_svalid (s : State) :
    s.idleEdge.svalid = s.svalid := rfl
@[simp] theorem State.idleEdge_lastErr (s : State) :
    s.idleEdge.lastErr = s.lastErr := rfl
@[simp] theorem State.idleEdge_dout (s : State) :
    s.idleEdge.dout = s.dout := rfl
@[simp] theorem State.idleEdge_rvalid (s : State) :
    s.idleEdge.rvalid = false := rfl
@[simp] theorem State.idleEdge_resetSeen (s : State) :
    s.idleEdge.resetSeen = s.resetSeen := rfl
@[simp] theorem State.idleEdge_unresetEdges (s : State) :
    s.idleEdge.unresetEdges = s.unresetEdges := rfl
@[simp] theorem State.idleEdge_inputs (s : State) :
    s.idleEdge.inputs = s.inputs := rfl

/-! `State.resetEdge` -/

@[simp] theorem State.resetEdge_acc (s : State) :
    s.resetEdge.acc = State.reset.acc := rfl
@[simp] theorem State.resetEdge_pos (s : State) :
    s.resetEdge.pos = State.reset.pos := rfl
@[simp] theorem State.resetEdge_stored (s : State) :
    s.resetEdge.stored = State.reset.stored := rfl
@[simp] theorem State.resetEdge_svalid (s : State) :
    s.resetEdge.svalid = State.reset.svalid := rfl
@[simp] theorem State.resetEdge_lastErr (s : State) :
    s.resetEdge.lastErr = State.reset.lastErr := rfl
@[simp] theorem State.resetEdge_dout (s : State) :
    s.resetEdge.dout = State.reset.dout := rfl
@[simp] theorem State.resetEdge_rvalid (s : State) :
    s.resetEdge.rvalid = State.reset.rvalid := rfl
@[simp] theorem State.resetEdge_resetSeen (s : State) :
    s.resetEdge.resetSeen = State.reset.resetSeen := rfl
@[simp] theorem State.resetEdge_unresetEdges (s : State) :
    s.resetEdge.unresetEdges = State.reset.unresetEdges := rfl
@[simp] theorem State.resetEdge_inputs (s : State) :
    s.resetEdge.inputs = s.inputs := rfl

/-! `State.present` -/

@[simp] theorem State.present_acc (s : State) (es : List Edge) :
    (s.present es).acc = s.acc := rfl
@[simp] theorem State.present_pos (s : State) (es : List Edge) :
    (s.present es).pos = s.pos := rfl
@[simp] theorem State.present_stored (s : State) (es : List Edge) :
    (s.present es).stored = s.stored := rfl
@[simp] theorem State.present_svalid (s : State) (es : List Edge) :
    (s.present es).svalid = s.svalid := rfl
@[simp] theorem State.present_lastErr (s : State) (es : List Edge) :
    (s.present es).lastErr = s.lastErr := rfl
@[simp] theorem State.present_dout (s : State) (es : List Edge) :
    (s.present es).dout = s.dout := rfl
@[simp] theorem State.present_rvalid (s : State) (es : List Edge) :
    (s.present es).rvalid = s.rvalid := rfl
@[simp] theorem State.present_resetSeen (s : State) (es : List Edge) :
    (s.present es).resetSeen = s.resetSeen := rfl
@[simp] theorem State.present_unresetEdges (s : State) (es : List Edge) :
    (s.present es).unresetEdges = s.unresetEdges := rfl
@[simp] theorem State.present_inputs (s : State) (es : List Edge) :
    (s.present es).inputs = es ++ s.inputs := rfl

/-! `State.idleUnresetEdge`: the registers are free values, which no lemma describes -/

@[simp] theorem State.idleUnresetEdge_resetSeen (s : State) :
    s.idleUnresetEdge.resetSeen = false := rfl
@[simp] theorem State.idleUnresetEdge_unresetEdges (s : State) :
    s.idleUnresetEdge.unresetEdges = s.unresetEdges + 1 := rfl
@[simp] theorem State.idleUnresetEdge_inputs (s : State) :
    s.idleUnresetEdge.inputs = s.inputs := rfl

/-! `State.powerUp` -/

@[simp] theorem State.powerUp_resetSeen (es : List Edge) :
    (State.powerUp es).resetSeen = false := rfl
@[simp] theorem State.powerUp_unresetEdges (es : List Edge) :
    (State.powerUp es).unresetEdges = 0 := rfl
@[simp] theorem State.powerUp_inputs (es : List Edge) :
    (State.powerUp es).inputs = es := rfl

/-! `State.reset` -/

@[simp] theorem State.reset_acc : State.reset.acc = 0#7 := rfl
@[simp] theorem State.reset_pos : State.reset.pos = 0#7 := rfl
@[simp] theorem State.reset_stored : State.reset.stored = 0#8 := rfl
@[simp] theorem State.reset_svalid : State.reset.svalid = false := rfl
@[simp] theorem State.reset_lastErr : State.reset.lastErr = .ok := rfl
@[simp] theorem State.reset_dout : State.reset.dout = 0#16 := rfl
@[simp] theorem State.reset_rvalid : State.reset.rvalid = false := rfl
@[simp] theorem State.reset_resetSeen : State.reset.resetSeen = true := rfl
@[simp] theorem State.reset_unresetEdges : State.reset.unresetEdges = 0 := rfl
@[simp] theorem State.reset_inputs : State.reset.inputs = [] := rfl

end Sys2Proof.Machine
end

