-- ==== Sys2Proof/Laws/Ops.lean ====
section
/-! SUPPORT. For each shared operation, once, everything it can do: the lemmas that proofs cite in the place of unfolding. -/

namespace Sys2Proof.Machine

/-! ### Responses -/

theorem ok_eq (d : DataWord) (s : State) : ok d s = .next (s.respond .ok d) := rfl

theorem raise_eq (e : Status) (s : State) : raise e s = .next (s.respond e 0#16) := rfl

theorem checkSbz_zero (n : Nat) (s : State) (k : Result) : checkSbz (0#n) s k = k := by
  simp [checkSbz]

theorem checkSbz_nonzero {n : Nat} {sbz : BitVec n} (h : sbz ≠ 0#n) (s : State) (k : Result) :
    checkSbz sbz s k = .next (s.respond .range 0#16) := by
  simp [checkSbz, h, raise_eq]

/-- The check of the SBZ bits either lets the command go on or answers RANGE (R61). -/
theorem checkSbz_cases {n : Nat} {sbz : BitVec n} {s t : State} {k : Result}
    (h : checkSbz sbz s k = .next t) :
    (sbz = 0#n ∧ k = .next t) ∨ (sbz ≠ 0#n ∧ t = s.respond .range 0#16) := by
  by_cases hz : sbz = 0#n
  · subst hz
    exact .inl ⟨rfl, by rwa [checkSbz_zero] at h⟩
  · rw [checkSbz_nonzero hz] at h
    exact .inr ⟨hz, by injection h with h; exact h.symm⟩

/-- A second response overwrites the first (R25, R147). -/
theorem respond_respond (s : State) (e e' : Status) (d d' : DataWord) :
    (s.respond e d).respond e' d' = s.respond e' d' := rfl

/-! ### Values -/

/-- Concatenation as arithmetic: `{a, b}` has `a` in the more significant bits (R12). -/
theorem append_toNat {m n : Nat} (a : BitVec m) (b : BitVec n) :
    (a ++ b).toNat = a.toNat * 2 ^ n + b.toNat := by
  rw [BitVec.toNat_append, Nat.shiftLeft_eq, Nat.mul_comm]
  exact (Nat.two_pow_add_eq_or_of_lt b.isLt _).symm

/-- `& 0x7F` on a natural is `mod 128` (R101). -/
theorem and_ckMask (n : Nat) : n &&& Config.ckMask = n % 128 :=
  Nat.and_two_pow_sub_one_eq_mod n 7

theorem addByte_toNat (a : Sum7) (x : Byte) : (addByte a x).toNat = (a.toNat + x.toNat) % 128 := by
  simp [addByte]

theorem ckval_toNat (a : Sum7) : (ckval a).toNat = (a.toNat + 0xA5) % 128 := by
  rw [ckval, and_ckMask, BitVec.toNat_ofNat]
  simp [Config.ckConst]

theorem ckData_toNat (a : Sum7) : (ckData a).toNat = (a.toNat + 0xA5) % 128 := by
  have h := ckval_toNat a
  have hlt : (ckval a).toNat < 2 ^ 16 := lt_of_lt_of_le (ckval a).isLt (by decide)
  rw [ckData, BitVec.toNat_setWidth, Nat.mod_eq_of_lt hlt, h]

theorem insValue_toNat (b0 b1 : Byte) : (insValue b0 b1).toNat = b0.toNat * 128 + b1.toNat := by
  have h0 := b0.isLt
  have h1 := b1.isLt
  simp only [insValue, Config.insRadix, BitVec.toNat_ofNat]
  omega

theorem insOutOfRange_iff (b0 b1 : Byte) :
    insOutOfRange b0 b1 = true ↔ 3 < b0.toNat ∨ 127 < b1.toNat := by
  simp only [insOutOfRange, Bool.or_eq_true, decide_eq_true_eq]

/-! ### Rising edges -/

theorem nextEdge_cons {s : State} {e : Edge} {es : List Edge} (h : s.inputs = e :: es) :
    s.nextEdge = e := by
  simp [State.nextEdge, h]

theorem nextEdge_nil {s : State} (h : s.inputs = []) : s.nextEdge = Edge.idle := by
  simp [State.nextEdge, h]

/-- The two fields of a word, put together again, are the word (R60). -/
theorem packWord_fields (w : CmdWord) : packWord (opField w) (argField w) = w := by
  apply BitVec.eq_of_toNat_eq
  have h := w.isLt
  simp only [packWord, opField, argField, append_toNat, BitVec.extractLsb'_toNat, Nat.shiftRight_eq_div_pow]
  omega

/-- What a rising edge is, by the port samples and by whether a reset edge has occurred (R161, R165). -/
theorem edgeCase_cases (e : Edge) (b : Bool) :
    (edgeCase e b = .reset ∧ e.rst = true) ∨
    (edgeCase e b = .idle ∧ e.rst = false ∧ e.cmdValid = false ∧ b = true) ∨
    (edgeCase e b = .idleBeforeReset ∧ e.rst = false ∧ e.cmdValid = false ∧ b = false) ∨
    (edgeCase e b = .accept (packWord e.cmdOp e.cmdArg) ∧ e.rst = false ∧ e.cmdValid = true ∧ b = true) ∨
    (edgeCase e b = .acceptBeforeReset ∧ e.rst = false ∧ e.cmdValid = true ∧ b = false) := by
  rcases e with ⟨r, v, op, arg⟩
  cases r <;> cases v <;> cases b <;> simp [edgeCase]

/-- Everything a step can do when it gives a next state (R161, R162, R164, R165). -/
theorem step_cases {s t : State} (h : step s = .next t) :
    (s.nextEdge.rst = true ∧ t = s.takeEdge.resetEdge) ∨
    (s.nextEdge.rst = false ∧ s.nextEdge.cmdValid = false ∧ s.resetSeen = true ∧ t = s.takeEdge.idleEdge) ∨
    (s.nextEdge.rst = false ∧ s.nextEdge.cmdValid = false ∧ s.resetSeen = false ∧
      t = s.takeEdge.idleUnresetEdge) ∨
    (s.nextEdge.rst = false ∧ s.nextEdge.cmdValid = true ∧ s.resetSeen = true ∧
      exec (decode (packWord s.nextEdge.cmdOp s.nextEdge.cmdArg)) s.takeEdge = .next t) := by
  rcases edgeCase_cases s.nextEdge s.resetSeen with
    ⟨hc, h1⟩ | ⟨hc, h1, h2, h3⟩ | ⟨hc, h1, h2, h3⟩ | ⟨hc, h1, h2, h3⟩ | ⟨hc, _, _, _⟩ <;>
    rw [step, hc] at h
  · injection h with h
    exact .inl ⟨h1, h.symm⟩
  · injection h with h
    exact .inr (.inl ⟨h1, h2, h3, h.symm⟩)
  · injection h with h
    exact .inr (.inr (.inl ⟨h1, h2, h3, h.symm⟩))
  · exact .inr (.inr (.inr ⟨h1, h2, h3, h⟩))
  · injection h

end Sys2Proof.Machine
end

