-- ==== Sys2Proof/Laws/PerInstr.lean ====
section
/-! SUPPORT. Facts about every command as syntax, one lemma per constructor. -/

namespace Sys2Proof.Laws

/-- The opcode field of a command's word is the command's opcode, and its operand field the operand (R60). -/
def EncodedFields.Statement (i : Instr) : Prop :=
  opField (encode i) = i.op ∧ argField (encode i) = i.arg

/-- The fields of `{op, arg}` are `op` and `arg` (R60). -/
theorem fields_packWord (op : OpWord) (arg : ArgWord) :
    opField (packWord op arg) = op ∧ argField (packWord op arg) = arg := by
  constructor
  · exact BitVec.extractLsb'_append_eq_left
  · exact BitVec.extractLsb'_append_eq_right

namespace EncodedFields

theorem nop (sbz : BitVec 16) : Statement (.nop sbz) := fields_packWord _ _
theorem insEnc (sbz : BitVec 7) (v : InsNumber) : Statement (.insEnc sbz v) := fields_packWord _ _
theorem insDec (b0 b1 : Byte) : Statement (.insDec b0 b1) := fields_packWord _ _
theorem muteEnc (sbz : BitVec 12) (f : ActiveFlags) : Statement (.muteEnc sbz f) := fields_packWord _ _
theorem muteDec (sbz : BitVec 8) (b : Byte) : Statement (.muteDec sbz b) := fields_packWord _ _
theorem ckClr (sbz : BitVec 16) : Statement (.ckClr sbz) := fields_packWord _ _
theorem ckAdd (sbz : BitVec 8) (x : Byte) : Statement (.ckAdd sbz x) := fields_packWord _ _
theorem ckRec (sbz : BitVec 8) (x : Byte) : Statement (.ckRec sbz x) := fields_packWord _ _
theorem ckRd (sbz : BitVec 16) : Statement (.ckRd sbz) := fields_packWord _ _
theorem ckStat (sbz : BitVec 16) : Statement (.ckStat sbz) := fields_packWord _ _
theorem reservedAB (x : BitVec 1) (arg : ArgWord) : Statement (.reservedAB x arg) := fields_packWord _ _
theorem reservedCF (x : BitVec 2) (arg : ArgWord) : Statement (.reservedCF x arg) := fields_packWord _ _

end EncodedFields

end Sys2Proof.Laws
end

