-- ==== Sys2Proof/Laws/Run.lean ====
section
/-! SUPPORT. Sequences of commands and of rising edges, one step at a time. -/

namespace Sys2Proof.Machine

@[simp] theorem execSeq_nil (s : State) : execSeq [] s = .next s := rfl

theorem execSeq_cons_of_next {i : Instr} {is : List Instr} {s t : State} (h : exec i s = .next t) :
    execSeq (i :: is) s = execSeq is t := by
  rw [execSeq, h]

/-- A sequence that completes is followed by the rest of the commands on the state it leaves (R49). -/
theorem execSeq_append_of_next {is js : List Instr} {s t : State} (h : execSeq is s = .next t) :
    execSeq (is ++ js) s = execSeq js t := by
  induction is generalizing s with
  | nil =>
    injection h with h
    rw [List.nil_append, h]
  | cons i is ih =>
    cases hi : exec i s with
    | next u =>
      rw [execSeq_cons_of_next hi] at h
      rw [List.cons_append, execSeq_cons_of_next hi, ih h]
    | fault r => cases r
    | refused r => simp [execSeq, hi] at h

@[simp] theorem runEdges_zero (s : State) : runEdges 0 s = .next s := rfl

theorem runEdges_succ_of_next {k : Nat} {s t : State} (h : step s = .next t) :
    runEdges (k + 1) s = runEdges k t := by
  have hc : Sys2Proof.core.step s = .next t := h
  simp only [runEdges, Host.Core.run, hc]
  rfl

end Sys2Proof.Machine
end

