-- ==== Sys2Proof/Laws/Widths.lean ====
section
/-! SUPPORT. The word types have the widths of the parameter table (R10, 00_scope.md). -/

namespace Sys2Proof.Laws

theorem opWord_width : OpWord = BitVec Config.opBits := rfl
theorem argWord_width : ArgWord = BitVec Config.argBits := rfl
theorem cmdWord_width : CmdWord = BitVec (Config.opBits + Config.argBits) := rfl
theorem dataWord_width : DataWord = BitVec Config.dataBits := rfl
theorem insNumber_width : InsNumber = BitVec Config.insBits := rfl
theorem activeFlags_width : ActiveFlags = BitVec Config.muteSections := rfl
theorem sum7_width : Sum7 = BitVec Config.accBits := rfl
theorem pos7_width : Pos7 = BitVec Config.posBits := rfl

/-- The checksum mask keeps exactly the accumulator's width (R10, R21). -/
theorem ckMask_eq : Config.ckMask = 2 ^ Config.accBits - 1 := rfl

/-- The radix is one more than the largest LSB byte, and the instrument number fits its width (R85). -/
theorem insRange_eq : Config.insMsbMax * Config.insRadix + Config.insLsbMax = 2 ^ Config.insBits - 1 := rfl

/-- One checksum byte and the two regions make the record (R41). -/
theorem recLen_eq : 1 + Config.commonLen + Config.sectionLen = Config.recLen := rfl

end Sys2Proof.Laws
end

