-- ==== Sys2Proof/Machine/AsmText.lean ====
section
/-! DEFINITION. The text of assembler lines (R67, 30_encoding.md): one command a line, a lower-case mnemonic, operands
separated by commas, `;` starts a comment, numbers decimal, `0x` hexadecimal or `0b` binary. White space and the case of
hexadecimal digits are the model's choice (DESIGN CHOICE, log entry 11). Text is a list of characters. -/

namespace Sys2Proof.Machine

/-- White space inside a line. -/
def isBlank (c : Char) : Bool := c = ' ' || c = '\t' || c = '\r'

/-- A list of characters without the blanks at its ends. -/
def trimBlanks (cs : List Char) : List Char :=
  ((cs.dropWhile isBlank).reverse.dropWhile isBlank).reverse

/-- The parts of a list between the separators, at least one part. -/
def splitAtChar (sep : Char) : List Char → List (List Char)
  | [] => [[]]
  | c :: cs =>
    match splitAtChar sep cs with
    | [] => [[c]]
    | p :: ps => if c = sep then [] :: p :: ps else (c :: p) :: ps

/-- The value of a digit. -/
def digitValue (c : Char) : Option Nat :=
  if '0' ≤ c ∧ c ≤ '9' then some (c.toNat - 48)
  else if 'a' ≤ c ∧ c ≤ 'f' then some (c.toNat - 87)
  else if 'A' ≤ c ∧ c ≤ 'F' then some (c.toNat - 55)
  else none

/-- The number that digits to a base spell after a leading value. -/
def digitsValue (base : Nat) : Nat → List Char → Option Nat
  | n, [] => some n
  | n, c :: cs =>
    match digitValue c with
    | some d => if d < base then digitsValue base (n * base + d) cs else none
    | none => none

/-- A number as written (R67): decimal, `0x` hexadecimal or `0b` binary, with at least one digit. -/
def parseNumber (cs : List Char) : Option Nat :=
  match cs with
  | [] => none
  | '0' :: 'x' :: d :: ds => digitsValue 16 0 (d :: ds)
  | '0' :: 'b' :: d :: ds => digitsValue 2 0 (d :: ds)
  | d :: ds => digitsValue 10 0 (d :: ds)

/-- The operands of a line, separated by commas. -/
def parseOperands (cs : List Char) : Option (List Nat) :=
  if trimBlanks cs = [] then some []
  else (splitAtChar ',' cs).mapM (fun p => parseNumber (trimBlanks p))

/-- The line that a mnemonic and its operands make (R67, R68). -/
def asmLineOf (mnemonic : List Char) (operands : List Nat) : Option AsmLine :=
  match String.ofList mnemonic, operands with
  | "nop", [] => some .nop
  | "ins.enc", [v] => some (.insEnc v)
  | "ins.dec", [b0, b1] => some (.insDec b0 b1)
  | "mute.enc", [f] => some (.muteEnc f)
  | "mute.dec", [b] => some (.muteDec b)
  | "ck.clr", [] => some .ckClr
  | "ck.add", [x] => some (.ckAdd x)
  | "ck.rec", [x] => some (.ckRec x)
  | "ck.rd", [] => some .ckRd
  | "ck.stat", [] => some .ckStat
  | ".word", [w] => some (.word w)
  | "mute.active", ss => some (.muteActive ss)
  | "mute.none", [] => some .muteNone
  | "mute.all", [] => some .muteAll
  | "ck.sum", xs => some (.ckSum xs)
  | "ck.record", rs => some (.ckRecord rs)
  | _, _ => none

/-- The words of one line of text: none where it is refused, no words for an empty line or a comment (R67). -/
def assembleTextLine (cs : List Char) : Option (List CmdWord) :=
  match trimBlanks (cs.takeWhile (· ≠ ';')) with
  | [] => some []
  | c :: rest =>
    let line := c :: rest
    match parseOperands (line.dropWhile (fun x => !isBlank x)) with
    | none => none
    | some ops =>
      match asmLineOf (line.takeWhile (fun x => !isBlank x)) ops with
      | none => none
      | some l => assemble l

/-- The words of a text of several lines (R67). -/
def assembleText (cs : List Char) : Option (List CmdWord) :=
  ((splitAtChar '\n' cs).mapM assembleTextLine).map List.flatten

end Sys2Proof.Machine
end

