-- ==== Sys2Proof/Tests/Slice0.lean ====
section
/-! SUPPORT. Tests. Expected values are those of the derived vectors and programs of 95_test_vectors.md (named in each comment)
or are written out from the rule cited; words are written out from the encodings of 30_encoding.md R61 and R63. After
them, a witness for the hypotheses of each statement that has some. -/

namespace Sys2Proof.Tests

open Sys2Proof Sys2Proof.Machine

/-! ### Helpers -/

/-- The state a result gives, if it gives one. -/
def stateOf : Result → Option State
  | .next t => some t
  | .fault _ => none
  | .refused _ => none

/-- The status and data that a command word answers in a state. -/
def answer (w : CmdWord) (s : State) : Option (BitVec 2 × DataWord) :=
  (stateOf (exec (decode w) s)).map (fun t => (t.lastErr.code, t.dout))

/-- The checksum registers that a command word leaves: ACC, POS, STORED, SVALID. -/
def leaves (w : CmdWord) (s : State) : Option (Sum7 × Pos7 × Byte × Bool) :=
  (stateOf (exec (decode w) s)).map (fun t => (t.acc, t.pos, t.stored, t.svalid))

/-- A state in the middle of a record, with the byte 0x2A captured. -/
def atPos (pos : Pos7) (acc : Sum7) : State :=
  { State.reset with pos := pos, acc := acc, stored := 0x2A#8, svalid := true }

/-- The state right after reset with these edges to come. -/
def withEdges (es : List Edge) : State := State.reset.withInputs es

/-! ### Decoding: one word of every constructor -/

theorem test_decode_nop : decode 0b0000_0000_0000_0000_0000#20 = .nop 0#16 := by decide
theorem test_decode_insEnc : decode 0b0001_0000_0001_0010_1100#20 = .insEnc 0#7 300#9 := by decide
theorem test_decode_insDec : decode 0b0010_0000_0010_0010_1100#20 = .insDec 0x02#8 0x2C#8 := by decide
theorem test_decode_muteEnc : decode 0b0011_0000_0000_0000_0101#20 = .muteEnc 0#12 5#4 := by decide
theorem test_decode_muteDec : decode 0b0100_0000_0001_0000_0101#20 = .muteDec 1#8 0x05#8 := by decide
theorem test_decode_ckClr : decode 0b0101_0000_0000_0000_0001#20 = .ckClr 1#16 := by decide
theorem test_decode_ckAdd : decode 0b0110_0000_0000_0001_0010#20 = .ckAdd 0#8 0x12#8 := by decide
theorem test_decode_ckRec : decode 0b0111_0000_0000_0101_0101#20 = .ckRec 0#8 0x55#8 := by decide
theorem test_decode_ckRd : decode 0b1000_0000_0000_0000_0000#20 = .ckRd 0#16 := by decide
theorem test_decode_ckStat : decode 0b1001_0000_0000_0000_0000#20 = .ckStat 0#16 := by decide
theorem test_decode_reservedAB : decode 0b1011_0000_0000_0000_0001#20 = .reservedAB 1#1 1#16 := by decide
theorem test_decode_reservedCF : decode 0b1111_0001_0010_0011_0100#20 = .reservedCF 3#2 0x1234#16 := by decide

/-- A number of more than 20 bits is no command word and is rejected by name. -/
theorem test_decode_too_wide : decodeNat 0x100000 = .error .widerThanCommandWord := by rfl

/-- Bytes, the least significant first: the word 0x2022C. -/
theorem test_decode_bytes : decodeBytes [0x2C#8, 0x02#8, 0x02#8] = .ok (.insDec 0x02#8 0x2C#8) := by rfl

/-- The host's reading of a table row, 24 bits of whole bytes. -/
theorem test_decodeTableWord : decodeTableWord 24 0x1012C = some (.insEnc 0#7 300#9) := by decide

/-! ### Well-formedness: each check refuses an ill-formed command -/

theorem test_wellFormed_accepts : (Instr.insEnc 0#7 511#9).wellFormed = true := by decide
theorem test_wellFormed_nop_sbz : (Instr.nop 1#16).wellFormed = false := by decide
theorem test_wellFormed_insEnc_sbz : (Instr.insEnc 1#7 0#9).wellFormed = false := by decide
theorem test_wellFormed_muteEnc_sbz : (Instr.muteEnc 1#12 0#4).wellFormed = false := by decide
theorem test_wellFormed_muteDec_sbz : (Instr.muteDec 1#8 0#8).wellFormed = false := by decide
theorem test_wellFormed_ckClr_sbz : (Instr.ckClr 1#16).wellFormed = false := by decide
theorem test_wellFormed_ckAdd_sbz : (Instr.ckAdd 1#8 0#8).wellFormed = false := by decide
theorem test_wellFormed_ckRec_sbz : (Instr.ckRec 0x80#8 0#8).wellFormed = false := by decide
theorem test_wellFormed_ckRd_sbz : (Instr.ckRd 1#16).wellFormed = false := by decide
theorem test_wellFormed_ckStat_sbz : (Instr.ckStat 0x8000#16).wellFormed = false := by decide
theorem test_wellFormed_reservedAB : (Instr.reservedAB 0#1 0#16).wellFormed = false := by decide
theorem test_wellFormed_reservedCF : (Instr.reservedCF 0#2 0#16).wellFormed = false := by decide

/-! ### Meanings -/

/-- CTL-1, CTL-2. -/
theorem test_nop : answer 0x00000#20 State.reset = some (0#2, 0x0000#16) ∧
    answer 0x00001#20 State.reset = some (2#2, 0x0000#16) := by decide

/-- ENC-7, ENC-10, ENC-11. -/
theorem test_insEnc : answer 0x1012C#20 State.reset = some (0#2, 0x022C#16) ∧
    answer 0x101FF#20 State.reset = some (0#2, 0x037F#16) ∧
    answer 0x10200#20 State.reset = some (2#2, 0x0000#16) := by decide

/-- DEC-5, DEC-7, DEC-8, DEC-10. -/
theorem test_insDec : answer 0x2022C#20 State.reset = some (0#2, 0x012C#16) ∧
    answer 0x2037F#20 State.reset = some (0#2, 0x01FF#16) ∧
    answer 0x20400#20 State.reset = some (2#2, 0x0000#16) ∧
    answer 0x20380#20 State.reset = some (2#2, 0x0000#16) := by decide

/-- MENC-6, MENC-17. -/
theorem test_muteEnc : answer 0x30005#20 State.reset = some (0#2, 0x0005#16) ∧
    answer 0x30010#20 State.reset = some (2#2, 0x0000#16) := by decide

/-- MDEC-6, MDEC-17, MDEC-20. -/
theorem test_muteDec : answer 0x40005#20 State.reset = some (0#2, 0x0005#16) ∧
    answer 0x40010#20 State.reset = some (2#2, 0x0000#16) ∧
    answer 0x40105#20 State.reset = some (2#2, 0x0000#16) := by decide

/-- CK-1, CK-19. -/
theorem test_ckClr : answer 0x50000#20 (atPos 5#7 0x10#7) = some (0#2, 0x0025#16) ∧
    leaves 0x50000#20 (atPos 5#7 0x10#7) = some (0#7, 0#7, 0x00#8, false) ∧
    leaves 0x50001#20 (atPos 5#7 0x10#7) = some (0x10#7, 5#7, 0x2A#8, true) := by decide

/-- CK-4, CK-6, CK-7. -/
theorem test_ckAdd : answer 0x6005B#20 State.reset = some (0#2, 0x0000#16) ∧
    leaves 0x600FF#20 State.reset = some (0x7F#7, 0#7, 0x00#8, false) ∧
    leaves 0x60001#20 (atPos 7#7 0x7F#7) = some (0x00#7, 7#7, 0x2A#8, true) := by decide

/-- P2 rows 2 and 5, P3 row 104. -/
theorem test_ckRec : leaves 0x70055#20 State.reset = some (0#7, 1#7, 0x55#8, true) ∧
    answer 0x70055#20 State.reset = some (0#2, 0x0025#16) ∧
    leaves 0x7007F#20 (atPos 3#7 0x03#7) = some (0x02#7, 4#7, 0x2A#8, true) ∧
    answer 0x70066#20 (atPos 102#7 0x1F#7) = some (0#2, 0x002A#16) := by decide

/-- CK-15 and CK-16, with P3 row 107: OVERRUN, and RANGE before it. -/
theorem test_ckRec_errors : answer 0x70000#20 (atPos 103#7 0x05#7) = some (3#2, 0x0000#16) ∧
    leaves 0x70000#20 (atPos 103#7 0x05#7) = some (0x05#7, 103#7, 0x2A#8, true) ∧
    answer 0x70100#20 (atPos 103#7 0x05#7) = some (2#2, 0x0000#16) := by decide

/-- P3 row 105, CK-18. -/
theorem test_ckRd : answer 0x80000#20 (atPos 103#7 0x05#7) = some (0#2, 0x002A#16) ∧
    answer 0x80001#20 (atPos 103#7 0x05#7) = some (2#2, 0x0000#16) := by decide

/-- P3 row 106, CK-23. -/
theorem test_ckStat : answer 0x90000#20 (atPos 103#7 0x05#7) = some (0#2, 0x2AE7#16) ∧
    answer 0x90001#20 State.reset = some (2#2, 0x0000#16) := by decide

/-- CTL-9, and P4 row 4: the checksum in progress is left alone. -/
theorem test_reservedAB : answer 0xA0001#20 (atPos 1#7 0x10#7) = some (1#2, 0x0000#16) ∧
    leaves 0xB0000#20 (atPos 1#7 0x10#7) = some (0x10#7, 1#7, 0x2A#8, true) := by decide

/-- CTL-8, CTL-10. -/
theorem test_reservedCF : answer 0xF0000#20 State.reset = some (1#2, 0x0000#16) ∧
    answer 0xF1234#20 State.reset = some (1#2, 0x0000#16) := by decide

/-! ### Edges: the rows of P5 -/

/-- Edge 1: a command right after reset, no CK.CLR needed. -/
theorem test_edge_command :
    (stateOf (step (withEdges [Edge.command 0x60012#20]))).map State.outPorts
      = some ⟨true, true, 0#2, 0x0037#16⟩ := by decide

/-- Edge 2: an idle edge takes `rsp_valid` to 0 and holds the rest; the end of the list is an idle edge (log entry 2). -/
theorem test_edge_idle :
    (stateOf (step { State.reset with dout := 0x0037#16, acc := 0x12#7, rvalid := true })).map
      (fun t => (t.outPorts, t.acc)) = some (⟨true, false, 0#2, 0x0037#16⟩, 0x12#7) := by decide

/-- Edge 4: reset wins over a presented command. -/
theorem test_edge_reset :
    step { atPos 3#7 0x12#7 with inputs := [⟨true, true, 0x6#4, 0x0001#16⟩] } = .next State.reset := by rfl

/-- A command before any reset edge is refused by name (log entry 3). -/
theorem test_edge_before_reset :
    step (State.powerUp [Edge.command 0x00000#20]) = .refused .commandBeforeReset := by rfl

/-- An idle edge before any reset edge leaves every register a free value, RVALID too (R165, I1; log entry 4). -/
theorem test_edge_idle_before_reset : step (State.powerUp [Edge.idle]) = .next (State.unspecified 1 []) := by rfl

/-- A reset edge out of power-up gives the reset state (R165). -/
theorem test_edge_power_up : step (State.powerUp [⟨true, false, 0#4, 0#16⟩]) = .next State.reset := by rfl

/-- The stored command is the one that runs next. -/
theorem test_withFetchWord :
    step (State.reset.withFetchWord 24 0x1012C) = .next (State.reset.respond .ok 0x022C#16) := by rfl

/-! ### Records and the assembler -/

/-- CK-11 and CK-12: `r[i] = i`, with two values of `r[0]`; the checksum is 0x2A. -/
theorem test_recordChecksum : recordChecksum ((List.range 103).map (BitVec.ofNat 8)) = 0x2A ∧
    recordChecksum (0x7F#8 :: (List.range' 1 102).map (BitVec.ofNat 8)) = 0x2A := by decide

/-- The last position of the common data, the first of the section data, and the end (R41). -/
theorem test_regionOf : regionOf 0 = some .checksumByte ∧ regionOf 54 = some .commonData ∧
    regionOf 55 = some .sectionData ∧ regionOf 102 = some .sectionData ∧ regionOf 103 = none := by decide

/-- R67, R68: the examples of the rules, as text. -/
theorem test_assembleText :
    assembleText "ins.enc 300\nins.dec 0x02, 0x2C ; 300\n\nmute.active 1, 3\nck.sum 0b10010\n.word 0xF1234".toList
      = some [0x1012C#20, 0x2022C#20, 0x30005#20, 0x50000#20, 0x60012#20, 0x80000#20, 0xF1234#20] := by decide

/-- R67: operands outside the range, an upper-case mnemonic and a repeated section are refused. -/
theorem test_assembleText_refuses : assembleText "ins.enc 512".toList = none ∧
    assembleText "mute.enc 16".toList = none ∧ assembleText "NOP".toList = none ∧
    assembleText "mute.active 1, 1".toList = none := by decide

/-! ### Witnesses: the hypotheses of the statements can be met, with a value at the edge of each clause -/

theorem witness_OpcodeSelectsCommandAndOperands :
    (0x0FFFF#20).toNat / 65536 = 0 ∧ (0x1FFFF#20).toNat / 65536 = 1 ∧ (0x20000#20).toNat / 65536 = 2 ∧
    (0x3000F#20).toNat / 65536 = 3 ∧ (0x400FF#20).toNat / 65536 = 4 ∧ (0x50000#20).toNat / 65536 = 5 ∧
    (0x600FF#20).toNat / 65536 = 6 ∧ (0x7FFFF#20).toNat / 65536 = 7 ∧ (0x80000#20).toNat / 65536 = 8 ∧
    (0x9FFFF#20).toNat / 65536 = 9 ∧ (0xA0000#20).toNat / 65536 = 10 ∧ (0xBFFFF#20).toNat / 65536 = 11 ∧
    12 ≤ (0xC0000#20).toNat / 65536 ∧ 12 ≤ (0xFFFFF#20).toNat / 65536 := by decide

theorem witness_StepRunsDecodedCommand :
    (withEdges [⟨false, true, opField 0x1012C#20, argField 0x1012C#20⟩]).resetSeen = true ∧
    (withEdges [⟨false, true, opField 0x1012C#20, argField 0x1012C#20⟩]).inputs
      = ⟨false, true, opField 0x1012C#20, argField 0x1012C#20⟩ :: [] ∧
    decode 0x1012C#20 = .insEnc 0#7 300#9 := by decide

theorem witness_FetchWordRunsNext : State.reset.resetSeen = true ∧ 20 ≤ 24 ∧ 0xFFFFF < 2 ^ 20 := by decide

theorem witness_IdleEdgeClearsOnlyRvalid :
    (withEdges [⟨false, false, 0xF#4, 0xFFFF#16⟩]).resetSeen = true ∧
    (withEdges [⟨false, false, 0xF#4, 0xFFFF#16⟩]).inputs = ⟨false, false, 0xF#4, 0xFFFF#16⟩ :: [] := by decide

theorem witness_ResetEdgeLeavesResetValues :
    (withEdges [⟨true, true, 0x6#4, 0x0001#16⟩]).inputs = ⟨true, true, 0x6#4, 0x0001#16⟩ :: [] := by decide

theorem witness_CommandAcceptedRightAfterReset :
    (State.powerUp [⟨true, false, 0#4, 0#16⟩, Edge.command 0x60012#20]).inputs
      = ⟨true, false, 0#4, 0#16⟩ :: Edge.command 0x60012#20 :: [] := by rfl

theorem witness_ResponseValidForOneCycle :
    (withEdges [Edge.command 0x60012#20, ⟨false, false, 0#4, 0#16⟩]).resetSeen = true ∧
    (withEdges [Edge.command 0x60012#20, ⟨false, false, 0#4, 0#16⟩]).inputs
      = Edge.command 0x60012#20 :: ⟨false, false, 0#4, 0#16⟩ :: [] := by decide

theorem witness_NoCommandBeforeReset :
    (State.powerUp [⟨false, true, 0#4, 0#16⟩]).resetSeen = false ∧
    (State.powerUp [⟨false, true, 0#4, 0#16⟩]).inputs = ⟨false, true, 0#4, 0#16⟩ :: [] ∧
    (State.powerUp [⟨false, false, 0#4, 0#16⟩]).resetSeen = false ∧
    (State.powerUp [⟨false, false, 0#4, 0#16⟩]).inputs = ⟨false, false, 0#4, 0#16⟩ :: [] := ⟨rfl, rfl, rfl, rfl⟩

/-- For MachineNeverStopsAfterReset and ConsecutiveCommandsRunInOrder. -/
theorem witness_resetSeen : (withEdges [Edge.command 0x60012#20]).resetSeen = true := by decide

theorem witness_CommandsTakeEffectInOrder :
    (withEdges [Edge.command 0x60012#20, Edge.idle, Edge.command 0x80000#20]).resetSeen = true ∧
    (∀ e ∈ [Edge.command 0x60012#20, Edge.idle, Edge.command 0x80000#20], e.rst = false) ∧
    (withEdges [Edge.command 0x60012#20, Edge.idle, Edge.command 0x80000#20]).inputs
      = [Edge.command 0x60012#20, Edge.idle, Edge.command 0x80000#20] ++ [] := by decide

/-- The SBZ clauses of NopResult, CkClrResult, CkRdResult and CkStatResult. -/
theorem witness_sbz16 : (0#16 = 0#16) ∧ (0x0001#16 ≠ 0#16) ∧ (0x8000#16 ≠ 0#16) := by decide

theorem witness_ReservedOpcodesAreIllegal : 0xA0000 ≤ (0xA0000#20).toNat ∧ 0xA0000 ≤ (0xFFFFF#20).toNat := by decide

theorem witness_InsEncResult : (0#7 = 0#7) ∧ (1#7 ≠ 0#7) := by decide

theorem witness_InsDecResult : ((3#8).toNat ≤ 3 ∧ (127#8).toNat ≤ 127) ∧ (3 < (4#8).toNat ∨ 127 < (0#8).toNat) ∧
    (3 < (0#8).toNat ∨ 127 < (128#8).toNat) := by decide

theorem witness_MuteEncResult : (0#12 = 0#12) ∧ (1#12 ≠ 0#12) := by decide

theorem witness_MuteDecResult : ((0#8) = 0#8 ∧ (0x0F#8).toNat / 16 = 0) ∧
    ((1#8) ≠ 0#8 ∨ (0x0F#8).toNat / 16 ≠ 0) ∧ ((0#8) ≠ 0#8 ∨ (0x10#8).toNat / 16 ≠ 0) := by decide

theorem witness_CodecInverseLaws : ((3#8).toNat ≤ 3 ∧ (127#8).toNat ≤ 127) ∧ (0x0F#8).toNat ≤ 0x0F ∧
    (3 < (4#8).toNat ∨ 127 < (0#8).toNat) ∧ 0x0F < (0x10#8).toNat := by decide

theorem witness_MutePolarityPreserved : (0x0F#8).toNat ≤ 0x0F := by decide

theorem witness_CodecCommandsArePure : isCodec (.insEnc 1#7 0#9) = true ∧ isCodec (.insDec 4#8 0#8) = true ∧
    isCodec (.muteEnc 0#12 5#4) = true ∧ isCodec (.muteDec 0#8 5#8) = true := by decide

theorem witness_CkAddResult : (0#8 = 0#8) ∧ (1#8 ≠ 0#8) := by decide

theorem witness_CkRecResult : (1#8 ≠ 0#8) ∧ ((0#8) = 0#8 ∧ (atPos 103#7 0#7).pos.toNat = 103) ∧
    ((0#8) = 0#8 ∧ State.reset.pos.toNat = 0) ∧
    ((0#8) = 0#8 ∧ 1 ≤ (atPos 1#7 0#7).pos.toNat ∧ (atPos 1#7 0#7).pos.toNat ≤ 102) ∧
    ((0#8) = 0#8 ∧ 1 ≤ (atPos 102#7 0#7).pos.toNat ∧ (atPos 102#7 0#7).pos.toNat ≤ 102) := by decide

theorem witness_InputBit7NeverChangesChecksum : State.reset.pos.toNat ≠ 103 ∧
    (atPos 102#7 0#7).pos.toNat ≠ 103 := by decide

theorem witness_ChecksumIgnoresOrderAndBoundary : ([0x01#8, 0x02#8]).Perm [0x02#8, 0x01#8] ∧
    (0x00#8 :: 0x01#8 :: List.replicate 101 0x00#8).length = 103 ∧
    (0x7F#8 :: 0x01#8 :: List.replicate 101 0x00#8).length = 103 ∧
    (0x00#8 :: 0x01#8 :: List.replicate 101 0x00#8).tail.Perm
      (0x7F#8 :: 0x01#8 :: List.replicate 101 0x00#8).tail :=
  ⟨List.Perm.swap _ _ _, rfl, rfl, List.Perm.refl _⟩

theorem witness_RegistersSinceClear :
    Instr.ckClr 0#16 ∉ [Instr.ckRec 0#8 0x33#8, .ckRec 0#8 0x01#8, .ckAdd 0#8 0x02#8, .ckClr 1#16] := by decide

/-- For WholeRecordLaw, with both ends of its range of prefixes. -/
theorem witness_WholeRecordLaw : (List.replicate 103 0xFF#8).length = 103 ∧ (1 ≤ 1 ∧ 1 ≤ 104) ∧
    (1 ≤ 104 ∧ 104 ≤ 104) := by decide

theorem witness_ChecksumByteExcludedFromItself : (List.replicate 102 0xFF#8).length = 102 := by decide

theorem witness_RecordPositionsAndRegions : regionOf State.reset.pos.toNat = some .checksumByte ∧
    regionOf (atPos 1#7 0#7).pos.toNat = some .commonData ∧
    regionOf (atPos 54#7 0#7).pos.toNat = some .commonData ∧
    regionOf (atPos 55#7 0#7).pos.toNat = some .sectionData ∧
    regionOf (atPos 102#7 0#7).pos.toNat = some .sectionData ∧
    (List.replicate 103 0x00#8).length = 103 := by decide

theorem witness_RecordChecksumAfter105Edges : (List.replicate 103 0x01#8).length = 103 ∧
    (withEdges ((recordLoad (List.replicate 103 0x01#8) ++ [Instr.ckRd 0#16]).map
      (fun i => Edge.command (encode i)) ++ [])).resetSeen = true ∧
    (withEdges ((recordLoad (List.replicate 103 0x01#8) ++ [Instr.ckRd 0#16]).map
      (fun i => Edge.command (encode i)) ++ [])).inputs
        = (recordLoad (List.replicate 103 0x01#8) ++ [Instr.ckRd 0#16]).map
            (fun i => Edge.command (encode i)) ++ [] := ⟨rfl, rfl, rfl⟩

/-- For ErrorsArePrecise, and with a command after it for ErrorsAreNotSticky: 0xA0000 in the middle of a record. -/
theorem witness_ErrorsAreNotSticky :
    exec (.reservedAB 0#1 0#16) (atPos 1#7 0x10#7) = .next ((atPos 1#7 0x10#7).respond .illegal 0#16) ∧
    ((atPos 1#7 0x10#7).respond .illegal 0#16).lastErr ≠ .ok := ⟨rfl, by decide⟩

theorem witness_NoCommandReadsResponseRegisters :
    SameChecksum (atPos 5#7 0x10#7) ((atPos 5#7 0x10#7).respond .overrun 0xFFFF#16) := by decide

theorem witness_RepeatableCommands : isCodec (.muteDec 0#8 5#8) = true ∧ isReadout (.ckRd 0#16) = true ∧
    isReadout (.ckStat 1#16) = true ∧ (∃ z, Instr.nop 0#16 = .nop z) := ⟨rfl, rfl, rfl, _, rfl⟩

theorem witness_WellFormedCommandsAndErrors : (Instr.ckRec 0#8 0xFF#8).wellFormed = true ∧
    (Instr.insDec 4#8 0#8).wellFormed = true ∧ (Instr.muteDec 0#8 0x10#8).wellFormed = true ∧
    (Instr.ckRec 1#8 0xFF#8).wellFormed = false := by decide

theorem witness_StepKeepsInvariants :
    { atPos 102#7 0x1F#7 with inputs := [Edge.command 0x70066#20] }.Inv ∧
    stateOf (step { atPos 102#7 0x1F#7 with inputs := [Edge.command 0x70066#20] })
      = some ((atPos 103#7 0x05#7).respond .ok 0x002A#16) := by decide

theorem witness_ResetAfterAnyIdleEdges :
    (∀ e ∈ [Edge.idle, ⟨false, false, 0x6#4, 0x0001#16⟩], e.rst = false ∧ e.cmdValid = false) ∧
    (State.powerUp [Edge.idle, ⟨false, false, 0x6#4, 0x0001#16⟩, ⟨true, true, 0x6#4, 0x0001#16⟩]).inputs
      = [Edge.idle, ⟨false, false, 0x6#4, 0x0001#16⟩] ++ ⟨true, true, 0x6#4, 0x0001#16⟩ :: [] :=
  ⟨by decide, rfl⟩

theorem witness_QuietUntilFirstCommand :
    (withEdges [Edge.idle, ⟨true, true, 0x6#4, 0x0001#16⟩]).resetSeen = true ∧
    (∀ e ∈ [Edge.idle, ⟨true, true, 0x6#4, 0x0001#16⟩], e.rst = true ∨ e.cmdValid = false) ∧
    (withEdges [Edge.idle, ⟨true, true, 0x6#4, 0x0001#16⟩]).inputs
      = [Edge.idle, ⟨true, true, 0x6#4, 0x0001#16⟩] ++ [] ∧
    State.reset.dout = 0x0000#16 ∧ State.reset.lastErr = .ok ∧ State.reset.rvalid = false := by decide

theorem witness_AssemblerWritesWellFormed :
    assemble (.ckAdd 255) = some [0x600FF#20] ∧ 0x600FF#20 ∈ [0x600FF#20] ∧ (∀ n, AsmLine.ckAdd 255 ≠ .word n) :=
  ⟨by decide, by decide, fun _ h => by injection h⟩

theorem witness_PseudoInstructionExpansions : ([1, 3, 4] : List Nat) ≠ [] ∧ ([1, 3, 4] : List Nat).Nodup ∧
    (∀ x ∈ ([1, 3, 4] : List Nat), 1 ≤ x ∧ x ≤ 4) ∧ ([0, 255] : List Nat) ≠ [] ∧
    (∀ x ∈ ([0, 255] : List Nat), x ≤ 255) ∧ (List.replicate 103 255).length = 103 ∧
    (∀ x ∈ List.replicate 103 255, x ≤ 255) :=
  ⟨by decide, by decide, by decide, by decide, by decide, by decide,
    fun x h => le_of_eq (List.eq_of_mem_replicate h)⟩

end Sys2Proof.Tests
end

