-- ==== Sys2Proof/Proofs/Scope.lean ====
section
/-! SUPPORT. The machine is total (R9, 00_scope.md): what every command answers, what every rising edge gives once a reset
edge has occurred, and the statements that follow. -/

namespace Sys2Proof.Machine

/-! ### The status of a command -/

/-- The status of a command whose SBZ bits are clear: the checks of its opcode, of its operand values and of POS (R64, R107,
R131). `exec_answers` ties it to `exec`. -/
def operandStatus (i : Instr) (s : State) : Status :=
  match i with
  | .insDec b0 b1 => if insOutOfRange b0 b1 then .range else .ok
  | .muteDec _ b => if muteHighSet b then .range else .ok
  | .ckRec _ _ => if s.pos.toNat = Config.recLen then .overrun else .ok
  | .reservedAB _ _ => .illegal
  | .reservedCF _ _ => .illegal
  | .nop _ => .ok
  | .insEnc _ _ => .ok
  | .muteEnc _ _ => .ok
  | .ckClr _ => .ok
  | .ckAdd _ _ => .ok
  | .ckRd _ => .ok
  | .ckStat _ => .ok

/-- The status of a command: the SBZ bits are checked before its operand values and POS (R61, R144). A reserved opcode has
no SBZ bits, so ILLEGAL comes first for it. -/
def commandStatus (i : Instr) (s : State) : Status :=
  bif i.sbzClear then operandStatus i s else .range

theorem commandStatus_of_sbzClear {i : Instr} (h : i.sbzClear = true) (s : State) :
    commandStatus i s = operandStatus i s := by
  simp [commandStatus, h]

theorem commandStatus_of_sbzSet {i : Instr} (h : i.sbzClear = false) (s : State) :
    commandStatus i s = .range := by
  simp [commandStatus, h]

theorem operandStatus_eq_illegal_iff (i : Instr) (s : State) :
    operandStatus i s = .illegal ↔ i.opDefined = false := by
  cases i <;> simp [operandStatus, Instr.opDefined, ite_eq_iff]

theorem operandStatus_eq_range_iff (i : Instr) (s : State) :
    operandStatus i s = .range ↔
      (∃ b0 b1, i = .insDec b0 b1 ∧ insOutOfRange b0 b1 = true) ∨
      ∃ sbz b, i = .muteDec sbz b ∧ muteHighSet b = true := by
  cases i <;> simp [operandStatus, ite_eq_iff]

theorem operandStatus_eq_overrun_iff (i : Instr) (s : State) :
    operandStatus i s = .overrun ↔ (∃ sbz x, i = .ckRec sbz x) ∧ s.pos.toNat = 103 := by
  cases i <;> simp [operandStatus, ite_eq_iff]

/-! ### The writes of the checksum registers leave the model's own fields alone -/

theorem sameOutside_refl (s : State) : SameOutside s s := ⟨rfl, rfl, rfl⟩

theorem sameOutside_clearChecksum (s : State) : SameOutside s s.clearChecksum := ⟨rfl, rfl, rfl⟩

theorem sameOutside_setAcc (s : State) (a : Sum7) : SameOutside s (s.setAcc a) := ⟨rfl, rfl, rfl⟩

theorem sameOutside_capture (s : State) (x : Byte) : SameOutside s (s.capture x) := ⟨rfl, rfl, rfl⟩

theorem sameOutside_advance {s u : State} (h : SameOutside s u) : SameOutside s u.advance := h

/-! ### What a command answers -/

/-- `r` is the answer with status `e` to a command in state `s`: a next state with RVALID 1 that leaves the model's own fields
alone and, where `e` is an error, changes the three response registers only (R27, R142). -/
def Answers (s : State) (e : Status) (r : Result) : Prop :=
  ∃ t, r = .next t ∧ t.lastErr = e ∧ t.rvalid = true ∧ SameOutside s t ∧ (e ≠ .ok → t = s.respond e 0#16)

theorem answers_ok {s u : State} (h : SameOutside s u) (d : DataWord) : Answers s .ok (ok d u) :=
  ⟨u.respond .ok d, ok_eq d u, rfl, rfl, h, fun hne => absurd rfl hne⟩

theorem answers_raise (e : Status) (s : State) : Answers s e (raise e s) :=
  ⟨s.respond e 0#16, raise_eq e s, rfl, rfl, sameOutside_refl s, fun _ => rfl⟩

theorem answers_ite {s : State} {e e' : Status} {k k' : Result} (c : Prop) [Decidable c]
    (h : Answers s e k) (h' : Answers s e' k') : Answers s (if c then e else e') (if c then k else k') := by
  split
  · exact h
  · exact h'

theorem answers_checkSbz {n : Nat} (sbz : BitVec n) {s : State} {e : Status} {k : Result} (h : Answers s e k) :
    Answers s (bif sbz == 0#n then e else .range) (checkSbz sbz s k) := by
  by_cases hz : sbz = 0#n
  · subst hz
    simpa [checkSbz_zero] using h
  · rw [checkSbz_nonzero hz, beq_false_of_ne hz]
    exact answers_raise .range s

/-- The answer of every command in every state (R9, R142, R144). -/
theorem exec_answers (i : Instr) (s : State) : Answers s (commandStatus i s) (exec i s) := by
  cases i with
  | nop sbz => exact answers_checkSbz sbz (answers_ok (sameOutside_refl s) _)
  | insEnc sbz v => exact answers_checkSbz sbz (answers_ok (sameOutside_refl s) _)
  | insDec b0 b1 => exact answers_ite _ (answers_raise .range s) (answers_ok (sameOutside_refl s) _)
  | muteEnc sbz f => exact answers_checkSbz sbz (answers_ok (sameOutside_refl s) _)
  | muteDec sbz b => exact answers_checkSbz sbz (answers_ite _ (answers_raise .range s) (answers_ok (sameOutside_refl s) _))
  | ckClr sbz => exact answers_checkSbz sbz (answers_ok (sameOutside_clearChecksum s) _)
  | ckAdd sbz x => exact answers_checkSbz sbz (answers_ok (sameOutside_setAcc s _) _)
  | ckRec sbz x =>
    refine answers_checkSbz sbz (answers_ite _ (answers_raise .overrun s) ?_)
    split
    · exact answers_ok (sameOutside_advance (sameOutside_capture s x)) _
    · exact answers_ok (sameOutside_advance (sameOutside_setAcc s _)) _
  | ckRd sbz => exact answers_checkSbz sbz (answers_ok (sameOutside_refl s) _)
  | ckStat sbz => exact answers_checkSbz sbz (answers_ok (sameOutside_refl s) _)
  | reservedAB x arg => exact answers_raise .illegal s
  | reservedCF x arg => exact answers_raise .illegal s

/-! ### What a rising edge gives -/

theorem step_of_rst {s : State} (hrst : s.nextEdge.rst = true) : step s = .next s.takeEdge.resetEdge := by
  simp [step, edgeCase, hrst]

theorem step_of_idle {s : State} (hseen : s.resetSeen = true) (hrst : s.nextEdge.rst = false)
    (hvalid : s.nextEdge.cmdValid = false) : step s = .next s.takeEdge.idleEdge := by
  simp [step, edgeCase, hseen, hrst, hvalid]

theorem step_of_command {s : State} (hseen : s.resetSeen = true) (hrst : s.nextEdge.rst = false)
    (hvalid : s.nextEdge.cmdValid = true) :
    step s = exec (decode (packWord s.nextEdge.cmdOp s.nextEdge.cmdArg)) s.takeEdge := by
  simp [step, edgeCase, hseen, hrst, hvalid]

/-- Once a reset edge has occurred each of the three kinds of edge gives a next state (R161), keeps that fact and uses up one
port sample. -/
theorem step_next_of_resetSeen {s : State} (hseen : s.resetSeen = true) :
    ∃ t, step s = .next t ∧ t.resetSeen = true ∧ t.inputs = s.inputs.tail := by
  cases hrst : s.nextEdge.rst with
  | true => exact ⟨_, step_of_rst hrst, rfl, rfl⟩
  | false =>
    cases hvalid : s.nextEdge.cmdValid with
    | false => exact ⟨_, step_of_idle hseen hrst hvalid, hseen, rfl⟩
    | true =>
      obtain ⟨t, hexec, -, -, ⟨hinputs, hkept, -⟩, -⟩ :=
        exec_answers (decode (packWord s.nextEdge.cmdOp s.nextEdge.cmdArg)) s.takeEdge
      exact ⟨t, (step_of_command hseen hrst hvalid).trans hexec, hkept.trans hseen, hinputs⟩

/-! ### The statements -/

/-- Settles O40: RVALID and the model's own fields are part of what every command answers. -/
theorem everyCommandAnswers : Obligations.EveryCommandAnswers := by
  intro i s
  obtain ⟨t, hexec, -, hrvalid, hsame, -⟩ := exec_answers i s
  exact ⟨t, hexec, hrvalid, hsame⟩

/-- Settles O12, by induction on the number of edges. -/
theorem machineNeverStopsAfterReset : Obligations.MachineNeverStopsAfterReset := by
  intro k
  induction k with
  | zero => exact fun s hseen => ⟨s, runEdges_zero s, hseen, rfl⟩
  | succ k ih =>
    intro s hseen
    obtain ⟨u, hstep, hseen', hinputs⟩ := step_next_of_resetSeen hseen
    obtain ⟨t, hrun, hseenEnd, hrest⟩ := ih u hseen'
    refine ⟨t, (runEdges_succ_of_next hstep).trans hrun, hseenEnd, ?_⟩
    rw [hrest, hinputs, List.drop_tail]

theorem wellFormed_iff (i : Instr) : i.wellFormed = true ↔ i.opDefined = true ∧ i.sbzClear = true :=
  Bool.and_eq_true_iff

/-- An ill-formed command has an SBZ bit set, so RANGE, or a reserved opcode, so ILLEGAL (R61, R131). -/
theorem commandStatus_ne_ok_of_illFormed {i : Instr} (h : i.wellFormed = false) (s : State) :
    commandStatus i s ≠ .ok := by
  cases hsbz : i.sbzClear with
  | false => simp [commandStatus_of_sbzSet hsbz]
  | true =>
    have hop : i.opDefined = false := by simpa [Instr.wellFormed, hsbz] using h
    simp [commandStatus_of_sbzClear hsbz, (operandStatus_eq_illegal_iff i s).2 hop]

/-- Settles O45: a well-formed command's status is the one of its operand checks, read off by the three `↔` lemmas. -/
theorem wellFormedCommandsAndErrors : Obligations.WellFormedCommandsAndErrors := by
  intro i s
  obtain ⟨t, hexec, hstatus, -⟩ := exec_answers i s
  refine ⟨t, hexec, fun hill => hstatus ▸ commandStatus_ne_ok_of_illFormed hill s, fun hwf => ?_⟩
  obtain ⟨hop, hsbz⟩ := (wellFormed_iff i).1 hwf
  rw [hstatus, commandStatus_of_sbzClear hsbz]
  refine ⟨fun h => ?_, fun h => ?_, fun h => ?_⟩
  · simp [(operandStatus_eq_illegal_iff i s).1 h] at hop
  · obtain ⟨b0, b1, rfl, -⟩ | ⟨sbz, b, rfl, -⟩ := (operandStatus_eq_range_iff i s).1 h
    · exact .inl ⟨b0, b1, rfl⟩
    · obtain rfl : sbz = 0#8 := eq_of_beq hsbz
      exact .inr ⟨b, rfl⟩
  · obtain ⟨⟨sbz, x, rfl⟩, hpos⟩ := (operandStatus_eq_overrun_iff i s).1 h
    obtain rfl : sbz = 0#8 := eq_of_beq hsbz
    exact ⟨⟨x, rfl⟩, hpos⟩

end Sys2Proof.Machine
end

/-! SUPPORT. The registers (10_state.md): what a command writes to the checksum registers and answers, as a function of the
checksum registers alone; the invariants of R28; and the registers after reset and idle edges. -/

namespace Sys2Proof.Machine

/-! ### What a completed command writes -/

/-- The state with the checksum writes of a completed command, before its response (R105 to R107); every command without a
row writes none of them (R32). `exec_of_ok` ties it to `exec`. -/
def checksumAfter (i : Instr) (s : State) : State :=
  match i with
  | .ckClr _ => s.clearChecksum
  | .ckAdd _ x => s.setAcc (addByte s.acc x)
  | .ckRec _ x =>
    if s.pos.toNat = Config.ckPos then (s.capture x).advance else (s.setAcc (addByte s.acc x)).advance
  | _ => s

/-- The response data of a completed command: the checksum commands show the accumulator after the command (R66), and NOP
answers 0x0000 (R130). A reserved opcode never completes. -/
def responseData (i : Instr) (s : State) : DataWord :=
  match i with
  | .insEnc _ v => insBytes v
  | .insDec b0 b1 => insValue b0 b1
  | .muteEnc _ f => muteByte f
  | .muteDec _ b => muteFlags b
  | .ckClr _ => ckData (checksumAfter i s).acc
  | .ckAdd _ _ => ckData (checksumAfter i s).acc
  | .ckRec _ _ => ckData (checksumAfter i s).acc
  | .ckRd _ => ckData (checksumAfter i s).acc
  | .ckStat _ => statData s.stored s.svalid s.pos
  | _ => 0x0000#16

theorem checksumAfter_ckRec_first {s : State} (hpos : s.pos.toNat = 0) (sbz : BitVec 8) (x : Byte) :
    checksumAfter (.ckRec sbz x) s = (s.capture x).advance :=
  if_pos hpos

theorem checksumAfter_ckRec_later {s : State} (hpos : s.pos.toNat ≠ 0) (sbz : BitVec 8) (x : Byte) :
    checksumAfter (.ckRec sbz x) s = (s.setAcc (addByte s.acc x)).advance :=
  if_neg hpos

theorem commandStatus_eq_ok_iff (i : Instr) (s : State) :
    commandStatus i s = .ok ↔ i.sbzClear = true ∧ operandStatus i s = .ok := by
  cases hsbz : i.sbzClear <;> simp [commandStatus, hsbz]

theorem operandStatus_ckRec_eq_ok_iff (sbz : BitVec 8) (x : Byte) (s : State) :
    operandStatus (.ckRec sbz x) s = .ok ↔ s.pos.toNat ≠ 103 := by
  simp [operandStatus]

/-- CK.REC with room in the record, in its two cases (R107). -/
theorem execCkRec_of_room {s : State} (hroom : s.pos.toNat ≠ 103) (x : Byte) :
    execCkRec 0#8 x s = ok (ckData (checksumAfter (.ckRec 0#8 x) s).acc) (checksumAfter (.ckRec 0#8 x) s) := by
  rw [execCkRec, checkSbz_zero, if_neg hroom]
  by_cases hpos : s.pos.toNat = 0
  · simp only [if_pos hpos, checksumAfter_ckRec_first hpos, State.advance_acc, State.capture_acc]
  · simp only [if_neg hpos, checksumAfter_ckRec_later hpos, State.advance_acc, State.setAcc_acc]

theorem checkSbz_of_clear {n : Nat} {sbz : BitVec n} (h : (sbz == 0#n) = true) (s : State) (k : Result) :
    checkSbz sbz s k = k := by
  rw [eq_of_beq h, checkSbz_zero]

/-- A command without an error makes its writes and answers OK (R143). -/
theorem exec_of_ok {i : Instr} {s : State} (h : commandStatus i s = .ok) :
    exec i s = .next ((checksumAfter i s).respond .ok (responseData i s)) := by
  obtain ⟨hsbz, hop⟩ := (commandStatus_eq_ok_iff i s).1 h
  cases i with
  | insDec b0 b1 =>
    have hin : ¬ insOutOfRange b0 b1 = true := by simpa [operandStatus] using hop
    exact if_neg hin
  | muteDec sbz b =>
    have hlow : ¬ muteHighSet b = true := by simpa [operandStatus] using hop
    exact (checkSbz_of_clear hsbz s _).trans (if_neg hlow)
  | ckRec sbz x =>
    obtain rfl : sbz = 0#8 := eq_of_beq hsbz
    exact execCkRec_of_room ((operandStatus_ckRec_eq_ok_iff _ x s).1 hop) x
  | reservedAB x arg => cases hop
  | reservedCF x arg => cases hop
  | _ => exact checkSbz_of_clear hsbz s _

/-- A command with an error writes the three response registers only (R142). -/
theorem exec_of_error {i : Instr} {s : State} (h : commandStatus i s ≠ .ok) :
    exec i s = .next (s.respond (commandStatus i s) 0x0000#16) := by
  obtain ⟨t, hexec, -, -, -, herror⟩ := exec_answers i s
  rw [hexec, herror h]

/-- The writes that the rules of the checksum registers allow a command: none, or those of one of the four cases of CK.CLR,
CK.ADD and CK.REC, each with its SBZ bits 0 (R21 to R24, R32). -/
inductive ChecksumWrite (s : State) : Instr → State → Prop where
  | none (i : Instr) : ChecksumWrite s i s
  | clear : ChecksumWrite s (.ckClr 0#16) s.clearChecksum
  | add (x : Byte) : ChecksumWrite s (.ckAdd 0#8 x) (s.setAcc (addByte s.acc x))
  | recordFirst (x : Byte) (hpos : s.pos.toNat = 0) : ChecksumWrite s (.ckRec 0#8 x) (s.capture x).advance
  | recordLater (x : Byte) (hpos : s.pos.toNat ≠ 0) (hroom : s.pos.toNat ≠ 103) :
    ChecksumWrite s (.ckRec 0#8 x) (s.setAcc (addByte s.acc x)).advance

theorem checksumAfter_write {i : Instr} {s : State} (h : commandStatus i s = .ok) :
    ChecksumWrite s i (checksumAfter i s) := by
  obtain ⟨hsbz, hop⟩ := (commandStatus_eq_ok_iff i s).1 h
  cases i with
  | ckClr sbz =>
    obtain rfl : sbz = 0#16 := eq_of_beq hsbz
    exact .clear
  | ckAdd sbz x =>
    obtain rfl : sbz = 0#8 := eq_of_beq hsbz
    exact .add x
  | ckRec sbz x =>
    obtain rfl : sbz = 0#8 := eq_of_beq hsbz
    have hroom := (operandStatus_ckRec_eq_ok_iff _ x s).1 hop
    by_cases hpos : s.pos.toNat = 0
    · rw [checksumAfter_ckRec_first hpos]
      exact .recordFirst x hpos
    · rw [checksumAfter_ckRec_later hpos]
      exact .recordLater x hpos hroom
  | _ => exact .none _

/-- Every command makes one of the allowed writes and then responds, with data 0x0000 where it reports an error (R142). -/
theorem exec_writes (i : Instr) (s : State) :
    ∃ u e d, exec i s = .next (u.respond e d) ∧ ChecksumWrite s i u ∧ (e ≠ .ok → d = 0x0000#16) := by
  by_cases h : commandStatus i s = .ok
  · exact ⟨_, _, _, exec_of_ok h, checksumAfter_write h, fun hne => absurd rfl hne⟩
  · exact ⟨_, _, _, exec_of_error h, .none i, fun _ => rfl⟩

/-! ### The invariants of R28 -/

/-- Settles O47. -/
theorem resetHasInvariants : Obligations.ResetHasInvariants :=
  ⟨rfl, by decide, by decide, fun _ => rfl, fun _ => rfl⟩

theorem inv_resetEdge (s : State) : s.resetEdge.Inv := resetHasInvariants

theorem inv_takeEdge {s : State} (h : s.Inv) : s.takeEdge.Inv := h

theorem inv_idleEdge {s : State} (h : s.Inv) : s.idleEdge.Inv := h

theorem inv_setAcc {s : State} (h : s.Inv) (a : Sum7) : (s.setAcc a).Inv := h

theorem inv_clearChecksum {s : State} (h : s.Inv) : s.clearChecksum.Inv := by
  obtain ⟨hseen, -, -, -, herror⟩ := h
  exact ⟨hseen, by simp, by simp, fun _ => rfl, herror⟩

theorem inv_respond {s : State} (h : s.Inv) {e : Status} {d : DataWord} (hd : e ≠ .ok → d = 0x0000#16) :
    (s.respond e d).Inv := by
  obtain ⟨hseen, hpos, hsvalid, hstored, -⟩ := h
  exact ⟨hseen, hpos, hsvalid, hstored, hd⟩

theorem advance_pos_toNat {s : State} (h : s.pos.toNat ≤ 102) : s.advance.pos.toNat = s.pos.toNat + 1 := by
  simp only [State.advance_pos, BitVec.toNat_add, BitVec.toNat_ofNat]
  omega

/-- POS may take 1 more where it leaves room for it and SVALID is already 1, as after a capture. -/
theorem inv_advance {s : State} (hseen : s.resetSeen = true) (hpos : s.pos.toNat ≤ 102) (hsvalid : s.svalid = true)
    (herror : s.lastErr ≠ .ok → s.dout = 0x0000#16) : s.advance.Inv := by
  have hnext := advance_pos_toNat hpos
  exact ⟨hseen, by omega, ⟨fun _ => by omega, fun _ => hsvalid⟩, by simp [hsvalid], herror⟩

/-- Each of the allowed writes keeps the invariants. -/
theorem inv_of_checksumWrite {i : Instr} {s u : State} (h : s.Inv) (hwrite : ChecksumWrite s i u) : u.Inv := by
  have ⟨hseen, hpos, hsvalid, _, herror⟩ := h
  cases hwrite with
  | none => exact h
  | clear => exact inv_clearChecksum h
  | add x => exact inv_setAcc h _
  | recordFirst x hzero => exact inv_advance hseen (by simp [hzero]) rfl herror
  | recordLater x hnonzero hroom =>
    have hcaptured : s.svalid = true := hsvalid.2 (by omega)
    have hpos' : (s.setAcc (addByte s.acc x)).pos.toNat ≤ 102 := by
      rw [State.setAcc_pos]
      omega
    exact inv_advance hseen hpos' hcaptured herror

theorem inv_of_exec {i : Instr} {s t : State} (h : s.Inv) (hexec : exec i s = .next t) : t.Inv := by
  obtain ⟨u, e, d, hu, hwrite, hd⟩ := exec_writes i s
  obtain rfl : u.respond e d = t := by simpa [hu] using hexec
  exact inv_respond (inv_of_checksumWrite h hwrite) hd

/-- Settles O46, by the four kinds of rising edge that give a next state. -/
theorem stepKeepsInvariants : Obligations.StepKeepsInvariants := by
  intro s t h hstep
  obtain ⟨-, rfl⟩ | ⟨-, -, -, rfl⟩ | ⟨-, -, hunseen, -⟩ | ⟨-, -, -, hexec⟩ := step_cases hstep
  · exact inv_resetEdge _
  · exact inv_idleEdge (inv_takeEdge h)
  · have ⟨hseen, _⟩ := h
    simp [hseen] at hunseen
  · exact inv_of_exec (inv_takeEdge h) hexec

/-! ### What a command reads -/

/-- POS is all that the status of a command reads (R107, R144). -/
theorem commandStatus_congr {s s' : State} (hpos : s'.pos = s.pos) (i : Instr) :
    commandStatus i s' = commandStatus i s := by
  have hop : operandStatus i s' = operandStatus i s := by
    cases i with
    | ckRec sbz x => simp only [operandStatus, hpos]
    | _ => rfl
  rw [commandStatus, commandStatus, hop]

theorem checksumAfter_congr {s s' : State} (h : SameChecksum s s') (i : Instr) :
    SameChecksum (checksumAfter i s) (checksumAfter i s') := by
  have ⟨hacc, hpos, hstored, hsvalid⟩ := h
  cases i with
  | ckClr sbz => exact ⟨rfl, rfl, rfl, rfl⟩
  | ckAdd sbz x => exact ⟨by simp [checksumAfter, hacc], hpos, hstored, hsvalid⟩
  | ckRec sbz x =>
    by_cases hzero : s.pos.toNat = 0
    · rw [checksumAfter_ckRec_first hzero, checksumAfter_ckRec_first (hpos ▸ hzero)]
      simp [SameChecksum, hacc, hpos]
    · rw [checksumAfter_ckRec_later hzero, checksumAfter_ckRec_later (hpos ▸ hzero)]
      simp [SameChecksum, hacc, hpos, hstored, hsvalid]
  | _ => exact h

theorem responseData_congr {s s' : State} (h : SameChecksum s s') (i : Instr) :
    responseData i s' = responseData i s := by
  have ⟨_, hpos, hstored, hsvalid⟩ := h
  obtain ⟨hacc, -⟩ := checksumAfter_congr h i
  cases i with
  | ckStat sbz => simp only [responseData, hpos, hstored, hsvalid]
  | ckClr | ckAdd | ckRec | ckRd => simp only [responseData, hacc]
  | _ => rfl

/-- Settles O42: the status, the data and the checksum writes are functions of the checksum registers. -/
theorem noCommandReadsResponseRegisters : Obligations.NoCommandReadsResponseRegisters := by
  intro i s s' h
  have ⟨_, hpos, _⟩ := h
  have hstatus := commandStatus_congr hpos i
  by_cases hok : commandStatus i s = .ok
  · exact ⟨_, _, exec_of_ok hok, exec_of_ok (hstatus.trans hok), checksumAfter_congr h i,
      responseData_congr h i, rfl, rfl⟩
  · exact ⟨_, _, exec_of_error hok, exec_of_error (hstatus ▸ hok), h, rfl, hstatus, rfl⟩

/-! ### What a command writes -/

/-- Settles O44, by the five cases of the allowed writes: each case gives the command, or leaves the register as it was. -/
theorem onlyNamedCommandsWriteChecksum : Obligations.OnlyNamedCommandsWriteChecksum := by
  intro i s
  obtain ⟨u, e, d, hexec, hwrite, -⟩ := exec_writes i s
  refine ⟨_, hexec, ?_⟩
  cases hwrite with
  | none => simp
  | clear => simp
  | add x => simp
  | recordFirst x hpos => simp [hpos]
  | recordLater x hpos hroom => simp [hpos]

/-! ### Reset and idle edges -/

/-- Settles O8: the reset edge leaves `State.reset`, and CK.CLR the same checksum registers. -/
theorem resetEdgeLeavesResetValues : Obligations.ResetEdgeLeavesResetValues := by
  intro s v op arg rest hinputs
  have hrst : s.nextEdge.rst = true := by rw [nextEdge_cons hinputs]
  refine ⟨_, step_of_rst hrst, rfl, rfl, rfl, rfl, rfl, rfl, rfl, rfl, by simp [hinputs], fun s' => ?_⟩
  exact ⟨_, exec_of_ok (i := .ckClr 0#16) (s := s') rfl, rfl, rfl, rfl, rfl⟩

/-- A reset edge has occurred, and the three response registers hold their reset values (R28, R35). -/
def Quiet (s : State) : Prop :=
  s.resetSeen = true ∧ s.dout = 0x0000#16 ∧ s.lastErr = .ok ∧ s.rvalid = false

/-- An edge that accepts no command keeps the response registers at their reset values (R164, R165). -/
theorem step_keeps_quiet {s : State} (h : Quiet s) (hedge : s.nextEdge.rst = true ∨ s.nextEdge.cmdValid = false) :
    ∃ t, step s = .next t ∧ Quiet t ∧ t.inputs = s.inputs.tail := by
  obtain ⟨hseen, hdout, hstatus, -⟩ := h
  cases hrst : s.nextEdge.rst with
  | true => exact ⟨_, step_of_rst hrst, ⟨rfl, rfl, rfl, rfl⟩, rfl⟩
  | false =>
    have hvalid : s.nextEdge.cmdValid = false := by simpa [hrst] using hedge
    exact ⟨_, step_of_idle hseen hrst hvalid, ⟨hseen, hdout, hstatus, rfl⟩, rfl⟩

theorem runEdges_keeps_quiet (es rest : List Edge) {s : State} (h : Quiet s)
    (hedges : ∀ e ∈ es, e.rst = true ∨ e.cmdValid = false) (hinputs : s.inputs = es ++ rest) :
    ∃ t, runEdges es.length s = .next t ∧ Quiet t ∧ t.inputs = rest := by
  induction es generalizing s with
  | nil => exact ⟨s, runEdges_zero s, h, hinputs⟩
  | cons e es ih =>
    obtain ⟨hedge, hlater⟩ := List.forall_mem_cons.1 hedges
    obtain ⟨u, hstep, hquiet, htail⟩ := step_keeps_quiet h (by rwa [nextEdge_cons hinputs])
    obtain ⟨t, hrun, hend⟩ := ih hquiet hlater (by rw [htail, hinputs]; rfl)
    exact ⟨t, (runEdges_succ_of_next hstep).trans hrun, hend⟩

/-- Settles O48, by induction on the edges. -/
theorem quietUntilFirstCommand : Obligations.QuietUntilFirstCommand := by
  intro es rest s hedges hseen hinputs hdout hstatus hrvalid
  obtain ⟨t, hrun, ⟨-, hquiet⟩, hrest⟩ :=
    runEdges_keeps_quiet es rest ⟨hseen, hdout, hstatus, hrvalid⟩ hedges hinputs
  obtain ⟨hdout', hstatus', hrvalid'⟩ := hquiet
  exact ⟨t, hrun, hdout', hstatus', hrvalid', hrest⟩

end Sys2Proof.Machine

/-! SUPPORT. Record positions and the order of commands (20_memory.md): the regions of a record, repeated commands, and the
rising edges of a host as the sequence of the commands they accept. -/

namespace Sys2Proof.Machine

/-! ### Record positions and regions (R41) -/

/-- The regions with the numbers of R41 in the place of the parameters. -/
theorem regionOf_eq_of_bounds (p : Nat) :
    regionOf p = if p = 0 then some .checksumByte else if p < 55 then some .commonData
      else if p < 103 then some .sectionData else none :=
  rfl

theorem regionOf_eq_checksumByte_iff (p : Nat) : regionOf p = some .checksumByte ↔ p = 0 := by
  simp [regionOf_eq_of_bounds, ite_eq_iff]

theorem regionOf_eq_commonData_iff (p : Nat) : regionOf p = some .commonData ↔ 1 ≤ p ∧ p ≤ 54 := by
  rw [regionOf_eq_of_bounds]
  split_ifs <;> simp only [reduceCtorEq, Option.some.injEq, false_iff, true_iff]
  all_goals omega

theorem regionOf_eq_sectionData_iff (p : Nat) : regionOf p = some .sectionData ↔ 55 ≤ p ∧ p ≤ 102 := by
  rw [regionOf_eq_of_bounds]
  split_ifs <;> simp only [reduceCtorEq, Option.some.injEq, false_iff, true_iff]
  all_goals omega

theorem commonData_length {r : List Byte} (h : r.length = 103) : (commonData r).length = 54 := by
  simp [commonData, h, Config.commonLen]

theorem sectionData_length {r : List Byte} (h : r.length = 103) : (sectionData r).length = 48 := by
  simp [sectionData, h, Config.commonLen, Config.sectionLen]

/-- The section data is all that follows the common data: no byte of a record comes after it. -/
theorem sectionData_eq_drop {r : List Byte} (h : r.length = 103) : sectionData r = (r.drop 1).drop 54 := by
  rw [List.drop_drop, sectionData, List.take_of_length_le (by simp [h, Config.commonLen, Config.sectionLen])]

theorem record_eq_append_regions {r : List Byte} (h : r.length = 103) :
    r = r.take 1 ++ commonData r ++ sectionData r := by
  rw [sectionData_eq_drop h, commonData, List.append_assoc, List.take_append_drop, List.take_append_drop]

/-- CK.REC with room in the record completes with its checksum writes (R107). -/
theorem exec_ckRec_of_room {s : State} (hroom : s.pos.toNat ≠ 103) (x : Byte) :
    ∃ d, exec (.ckRec 0#8 x) s = .next ((checksumAfter (.ckRec 0#8 x) s).respond .ok d) :=
  ⟨_, (execCkRec_of_room hroom x).trans (ok_eq _ _)⟩

/-- The byte at position 0 is captured and not summed (R41, R107). -/
theorem exec_ckRec_captures {s : State} (hpos : s.pos.toNat = 0) (x : Byte) :
    ∃ t, exec (.ckRec 0#8 x) s = .next t ∧ t.stored = x ∧ t.acc = s.acc ∧
      t.pos.toNat = s.pos.toNat + 1 := by
  obtain ⟨d, hexec⟩ := exec_ckRec_of_room (s := s) (by omega) x
  rw [checksumAfter_ckRec_first hpos] at hexec
  exact ⟨_, hexec, rfl, rfl, advance_pos_toNat (s := s.capture x) (by rw [State.capture_pos]; omega)⟩

/-- A byte at one of the positions 1 to 102 is summed, and the captured byte stays (R41, R107). -/
theorem exec_ckRec_sums {s : State} (hlow : 1 ≤ s.pos.toNat) (hhigh : s.pos.toNat ≤ 102) (x : Byte) :
    ∃ t, exec (.ckRec 0#8 x) s = .next t ∧ t.stored = s.stored ∧
      t.acc.toNat = (s.acc.toNat + x.toNat) % 128 ∧ t.pos.toNat = s.pos.toNat + 1 := by
  obtain ⟨d, hexec⟩ := exec_ckRec_of_room (s := s) (by omega) x
  rw [checksumAfter_ckRec_later (by omega)] at hexec
  exact ⟨_, hexec, rfl, addByte_toNat s.acc x, advance_pos_toNat (s := s.setAcc (addByte s.acc x)) hhigh⟩

/-- Settles O36: the regions are intervals of positions, and CK.REC captures at 0 and sums at 1 to 102. -/
theorem recordPositionsAndRegions : Obligations.RecordPositionsAndRegions := by
  refine ⟨fun x s h => ?_, fun x s h => ?_, fun p => ?_, fun r h => ?_⟩
  · exact exec_ckRec_captures ((regionOf_eq_checksumByte_iff _).1 h) x
  · rw [regionOf_eq_commonData_iff, regionOf_eq_sectionData_iff] at h
    exact exec_ckRec_sums (by omega) (by omega) x
  · exact ⟨regionOf_eq_checksumByte_iff p, regionOf_eq_commonData_iff p, regionOf_eq_sectionData_iff p⟩
  · exact ⟨commonData_length h, sectionData_length h, record_eq_append_regions h⟩

/-! ### States that a command cannot tell apart -/

/-- Every register but RVALID is the same in both states: the registers that an idle edge keeps (R164). -/
def SameLasting (s t : State) : Prop :=
  SameChecksum s t ∧ t.dout = s.dout ∧ t.lastErr = s.lastErr

theorem sameLasting_refl (s : State) : SameLasting s s := ⟨⟨rfl, rfl, rfl, rfl⟩, rfl, rfl⟩

theorem sameLasting_of_common {s t u : State} (h : SameLasting s t) (h' : SameLasting s u) : SameLasting t u := by
  obtain ⟨⟨hacc, hpos, hstored, hsvalid⟩, hdout, hlastErr⟩ := h
  rwa [SameLasting, SameChecksum, hacc, hpos, hstored, hsvalid, hdout, hlastErr]

theorem eq_of_sameLasting {s t : State} (h : SameLasting s t) (hrvalid : t.rvalid = s.rvalid)
    (houtside : SameOutside s t) : t = s := by
  obtain ⟨⟨hacc, hpos, hstored, hsvalid⟩, hdout, hlastErr⟩ := h
  obtain ⟨hinputs, hseen, hedges⟩ := houtside
  cases s
  cases t
  rw [State.mk.injEq]
  exact ⟨hacc, hpos, hstored, hsvalid, hlastErr, hdout, hrvalid, hseen, hedges, hinputs⟩

/-- The same checksum registers before a command give the same lasting registers after it (R31, R112). -/
theorem exec_sameLasting {i : Instr} {s s' t t' : State} (h : SameChecksum s s')
    (ht : exec i s = .next t) (ht' : exec i s' = .next t') : SameLasting t t' := by
  obtain ⟨u, u', hu, hu', hchecksum, hdout, hlastErr, -⟩ := noCommandReadsResponseRegisters i s s' h
  obtain rfl : u = t := by simpa [hu] using ht
  obtain rfl : u' = t' := by simpa [hu'] using ht'
  exact ⟨hchecksum, hdout, hlastErr⟩

/-- Where only the checksum registers agree before a command, the answer in one state gives the answer in the other: the same
registers, and the other state's own fields. -/
theorem exec_of_sameChecksum {i : Instr} {s s' t u : State} (h : SameChecksum s s') (hexec : exec i s = .next t)
    (hlasting : SameLasting t u) (hrvalid : u.rvalid = t.rvalid) (houtside : SameOutside s' u) :
    exec i s' = .next u := by
  obtain ⟨_, ht, hvalid, -⟩ := everyCommandAnswers i s
  obtain rfl := Host.Outcome.next.inj (hexec.symm.trans ht)
  obtain ⟨t', ht', hvalid', hinputs, hseen, hedges⟩ := everyCommandAnswers i s'
  have hboth : SameLasting u t' := sameLasting_of_common hlasting (exec_sameLasting h hexec ht')
  obtain ⟨huinputs, huseen, huedges⟩ := houtside
  have hsame : SameOutside u t' :=
    ⟨hinputs.trans huinputs.symm, hseen.trans huseen.symm, hedges.trans huedges.symm⟩
  rw [ht', eq_of_sameLasting hboth (hvalid'.trans (hrvalid.trans hvalid).symm) hsame]

/-- What the host drives later has no part in a command's meaning, and stays as it was. -/
theorem exec_withInputs {i : Instr} {s t : State} (h : exec i s = .next t) (es : List Edge) :
    exec i (s.withInputs es) = .next (t.withInputs es) := by
  obtain ⟨_, ht, -, -, hseen, hedges⟩ := everyCommandAnswers i s
  obtain rfl := Host.Outcome.next.inj (h.symm.trans ht)
  exact exec_of_sameChecksum (s := s) ⟨rfl, rfl, rfl, rfl⟩ h (sameLasting_refl t) rfl ⟨rfl, hseen, hedges⟩

/-- A response changes nothing that a later command reads or leaves standing (R112, R147). -/
theorem exec_respond (i : Instr) (s : State) (e : Status) (d : DataWord) : exec i (s.respond e d) = exec i s := by
  obtain ⟨t, ht, -, houtside⟩ := everyCommandAnswers i s
  rw [ht]
  exact exec_of_sameChecksum (s := s) ⟨rfl, rfl, rfl, rfl⟩ ht (sameLasting_refl t) rfl houtside

/-! ### Repeated commands (R48) -/

/-- A command can be repeated where its checksum writes change nothing about it: an error writes none, and a response is not
read. -/
theorem exec_repeats {i : Instr} {s : State}
    (h : commandStatus i s = .ok → exec i (checksumAfter i s) = exec i s) :
    ∃ t, exec i s = .next t ∧ exec i t = .next t := by
  by_cases hok : commandStatus i s = .ok
  · exact ⟨_, exec_of_ok hok, by rw [exec_respond, h hok, exec_of_ok hok]⟩
  · exact ⟨_, exec_of_error hok, by rw [exec_respond, exec_of_error hok]⟩

/-- NOP, the codec commands and the readouts write no checksum register (R48, R80). -/
theorem checksumAfter_of_pure {i : Instr} (h : isCodec i = true ∨ isReadout i = true ∨ ∃ z, i = .nop z) (s : State) :
    checksumAfter i s = s := by
  cases i with
  | ckClr | ckAdd | ckRec => simp [isCodec, isReadout] at h
  | _ => rfl

theorem sameChecksum_of_exec {i : Instr} {s t : State} (h : checksumAfter i s = s) (hexec : exec i s = .next t) :
    SameChecksum s t := by
  by_cases hok : commandStatus i s = .ok
  · obtain rfl : s.respond .ok (responseData i s) = t := by simpa [exec_of_ok hok, h] using hexec
    exact ⟨rfl, rfl, rfl, rfl⟩
  · obtain rfl : s.respond (commandStatus i s) 0x0000#16 = t := by simpa [exec_of_error hok] using hexec
    exact ⟨rfl, rfl, rfl, rfl⟩

/-- CK.CLR without an error does the same to the registers it has cleared as to any others (R105). -/
theorem exec_ckClr_clearChecksum {z : BitVec 16} {s : State} (h : commandStatus (.ckClr z) s = .ok) :
    exec (.ckClr z) s.clearChecksum = exec (.ckClr z) s := by
  rw [exec_of_ok h, exec_of_ok (s := s.clearChecksum) h]
  rfl

/-- Settles O43: the pure commands write no checksum register, and CK.CLR on cleared registers is CK.CLR. -/
theorem repeatableCommands : Obligations.RepeatableCommands := by
  refine ⟨fun i s hpure => ?_, fun z s => exec_repeats exec_ckClr_clearChecksum⟩
  have hkeep := checksumAfter_of_pure hpure s
  obtain ⟨t, hexec, hagain⟩ := exec_repeats (i := i) (s := s) (fun _ => by rw [hkeep])
  exact ⟨t, hexec, sameChecksum_of_exec hkeep hexec, hagain⟩

/-! ### Commands at consecutive edges (R168) -/

theorem step_withInputs_command {s : State} (hseen : s.resetSeen = true) (w : CmdWord) (es : List Edge) :
    step (s.withInputs (Edge.command w :: es)) = exec (decode w) (s.withInputs es) := by
  have hword : packWord (Edge.command w).cmdOp (Edge.command w).cmdArg = w := packWord_fields w
  calc step (s.withInputs (Edge.command w :: es))
      = exec (decode (packWord (Edge.command w).cmdOp (Edge.command w).cmdArg)) (s.withInputs es) :=
        step_of_command (s := s.withInputs (Edge.command w :: es)) hseen rfl rfl
    _ = exec (decode w) (s.withInputs es) := by rw [hword]

/-- Settles O13, by induction on the commands: no command sees the edges after its own. -/
theorem consecutiveCommandsRunInOrder : Obligations.ConsecutiveCommandsRunInOrder := by
  intro ws
  induction ws with
  | nil => exact fun s rest _ => rfl
  | cons w ws ih =>
    intro s rest hseen
    obtain ⟨t, hexec, -, -, hkept, -⟩ := everyCommandAnswers (decode w) s
    have hstep : step (s.withInputs (Edge.command w :: (ws.map Edge.command ++ rest)))
        = .next (t.withInputs (ws.map Edge.command ++ rest)) :=
      (step_withInputs_command hseen w _).trans (exec_withInputs hexec _)
    calc runEdges (ws.length + 1) (s.withInputs (Edge.command w :: (ws.map Edge.command ++ rest)))
        = runEdges ws.length (t.withInputs (ws.map Edge.command ++ rest)) := runEdges_succ_of_next hstep
      _ = execSeq (ws.map decode) (t.withInputs rest) := ih t rest (hkept.trans hseen)
      _ = execSeq (decode w :: ws.map decode) (s.withInputs rest) :=
        (execSeq_cons_of_next (exec_withInputs hexec rest)).symm

/-! ### Commands with idle edges between them (R49) -/

theorem acceptedCommands_cons (e : Edge) (es : List Edge) :
    acceptedCommands (e :: es) = acceptedCommands [e] ++ acceptedCommands es :=
  List.filterMap_append (l := [e])

theorem acceptedCommands_idle {e : Edge} (h : e.cmdValid = false) : acceptedCommands [e] = [] := by
  simp [acceptedCommands, h]

theorem acceptedCommands_command {e : Edge} (h : e.cmdValid = true) :
    acceptedCommands [e] = [decode (packWord e.cmdOp e.cmdArg)] := by
  simp [acceptedCommands, h]

/-- One edge without reset does to the lasting registers what the command it accepts does, if any (R162, R164). -/
theorem step_follows_acceptedCommands {s s' : State} (h : SameLasting s' s) (hseen : s.resetSeen = true)
    (hrst : s.nextEdge.rst = false) :
    ∃ t u, step s = .next t ∧ execSeq (acceptedCommands [s.nextEdge]) s' = .next u ∧ SameLasting u t := by
  cases hvalid : s.nextEdge.cmdValid with
  | false =>
    rw [acceptedCommands_idle hvalid]
    exact ⟨_, s', step_of_idle hseen hrst hvalid, execSeq_nil s', h⟩
  | true =>
    rw [acceptedCommands_command hvalid, step_of_command hseen hrst hvalid]
    obtain ⟨t, ht, -⟩ := everyCommandAnswers (decode (packWord s.nextEdge.cmdOp s.nextEdge.cmdArg)) s.takeEdge
    obtain ⟨u, hu, -⟩ := everyCommandAnswers (decode (packWord s.nextEdge.cmdOp s.nextEdge.cmdArg)) s'
    obtain ⟨hchecksum, -⟩ := h
    exact ⟨t, u, ht, execSeq_cons_of_next hu, exec_sameLasting (s' := s.takeEdge) hchecksum hu ht⟩

theorem runEdges_follows_acceptedCommands (es rest : List Edge) {s s' : State} (h : SameLasting s' s)
    (hseen : s.resetSeen = true) (hrst : ∀ e ∈ es, e.rst = false) (hinputs : s.inputs = es ++ rest) :
    ∃ t u, runEdges es.length s = .next t ∧ execSeq (acceptedCommands es) s' = .next u ∧
      SameLasting u t ∧ t.inputs = rest := by
  induction es generalizing s s' with
  | nil => exact ⟨s, s', runEdges_zero s, execSeq_nil s', h, hinputs⟩
  | cons e es ih =>
    obtain ⟨hedge, hlater⟩ := List.forall_mem_cons.1 hrst
    have hnext : s.nextEdge = e := nextEdge_cons hinputs
    obtain ⟨t, u, hstep, hseq, hsame⟩ := step_follows_acceptedCommands h hseen (hnext ▸ hedge)
    obtain ⟨t', hstep', hseen', htail⟩ := step_next_of_resetSeen hseen
    obtain rfl : t' = t := by simpa [hstep'] using hstep
    obtain ⟨v, w, hrun, hrest, hend⟩ := ih hsame hseen' hlater (by rw [htail, hinputs]; rfl)
    rw [hnext] at hseq
    refine ⟨v, w, (runEdges_succ_of_next hstep).trans hrun, ?_, hend⟩
    rw [acceptedCommands_cons, execSeq_append_of_next hseq, hrest]

/-- Settles O14: the edges and the sequence of accepted commands start from the same registers. -/
theorem commandsTakeEffectInOrder : Obligations.CommandsTakeEffectInOrder := by
  intro es rest s hseen hrst hinputs
  obtain ⟨t, u, hrun, hseq, ⟨hchecksum, hdout, hlastErr⟩, hrest⟩ :=
    runEdges_follows_acceptedCommands es rest (s' := s.withInputs rest) (sameLasting_refl s) hseen hrst hinputs
  exact ⟨t, u, hrun, hseq, hchecksum, hdout, hlastErr, hrest⟩

end Sys2Proof.Machine

/-! SUPPORT. Encoding (30_encoding.md): the fields of a word and of an operand, decoding and encoding as inverses, the words
of the assembler's forms, and the pseudo-instructions. -/

namespace Sys2Proof.Machine

/-! ### Bit fields as quotients and remainders (R12, R62) -/

/-- The bits from `n` upward are the quotient by `2 ^ n`. -/
theorem extractLsb'_high_toNat {w m n : Nat} (a : BitVec w) (h : w = m + n) :
    (a.extractLsb' n m).toNat = a.toNat / 2 ^ n := by
  subst h
  rw [BitVec.extractLsb'_toNat, Nat.shiftRight_eq_div_pow]
  exact Nat.mod_eq_of_lt (Nat.div_lt_of_lt_mul (by rw [← Nat.pow_add']; exact a.isLt))

/-- The bits below `n` are the remainder by `2 ^ n`. -/
theorem extractLsb'_low_toNat {w : Nat} (a : BitVec w) (n : Nat) : (a.extractLsb' 0 n).toNat = a.toNat % 2 ^ n := by
  rw [BitVec.extractLsb'_toNat, Nat.shiftRight_zero]

/-- Cutting a value in two and joining the parts again gives the value. -/
theorem append_extractLsb' {m n : Nat} (a : BitVec (m + n)) : a.extractLsb' n m ++ a.extractLsb' 0 n = a := by
  rw [BitVec.extractLsb'_append_extractLsb'_eq_extractLsb' (Nat.zero_add n).symm, BitVec.extractLsb'_eq_self]

theorem opField_toNat (w : CmdWord) : (opField w).toNat = w.toNat / 65536 :=
  extractLsb'_high_toNat w rfl

theorem argField_toNat (w : CmdWord) : (argField w).toNat = w.toNat % 65536 :=
  extractLsb'_low_toNat w 16

/-- An operand that is cut at bit `n` holds a quotient and a remainder of the word's number (R61, R62). -/
theorem argField_cut_toNat (w : CmdWord) {m n : Nat} (h : 16 = m + n) :
    ((argField w).extractLsb' n m).toNat = w.toNat % 65536 / 2 ^ n ∧
      ((argField w).extractLsb' 0 n).toNat = w.toNat % 2 ^ n := by
  rw [extractLsb'_high_toNat _ h, extractLsb'_low_toNat, argField_toNat]
  exact ⟨rfl, Nat.mod_mod_of_dvd _ (Nat.pow_dvd_pow 2 (h ▸ Nat.le_add_left n m : n ≤ 16))⟩

/-! ### Decoding and encoding are inverse (R60, R61, R63) -/

/-- The last row of the decoder's table, `11xx`. -/
theorem decodeFields_of_ge {op : OpWord} (h : 12 ≤ op.toNat) (arg : ArgWord) :
    decodeFields op arg = .reservedCF (op.extractLsb' 0 2) arg := by
  unfold decodeFields
  split
  case h_13 => rfl
  all_goals omega

/-- The decoder reads every command back from its opcode and its operand. -/
theorem decodeFields_op_arg (i : Instr) : decodeFields i.op i.arg = i := by
  cases i with
  | nop | ckClr | ckRd | ckStat => rfl
  | insEnc | muteEnc | muteDec | ckAdd | ckRec | insDec =>
    exact congrArg₂ _ BitVec.extractLsb'_append_eq_left BitVec.extractLsb'_append_eq_right
  | reservedAB x arg =>
    obtain rfl | rfl := BitVec.eq_zero_or_eq_one x <;> rfl
  | reservedCF x arg =>
    have hop : 12 ≤ (0b11#2 ++ x).toNat := by
      rw [append_toNat]
      exact Nat.le_add_right 12 _
    exact (decodeFields_of_ge hop arg).trans (congrArg (Instr.reservedCF · arg) BitVec.extractLsb'_append_eq_right)

/-- Settles O1: the fields of the word are the command's opcode and operand, and the decoder reads those back. -/
theorem decodeOfEncode : Obligations.DecodeOfEncode := by
  intro i
  obtain ⟨hop, harg⟩ := Laws.fields_packWord i.op i.arg
  rw [decode, encode, hop, harg, decodeFields_op_arg]

/-- The opcode of the command in a row of the decoder's table is the row's. -/
theorem op_decodeFields (op : OpWord) (arg : ArgWord) : (decodeFields op arg).op = op := by
  apply BitVec.eq_of_toNat_eq
  unfold decodeFields
  split
  case h_13 =>
    simp only [imp_false] at *
    rw [Instr.op, append_toNat, extractLsb'_low_toNat, BitVec.toNat_ofNat]
    omega
  all_goals exact Eq.symm ‹_›

/-- The operand fields of the command in a row of the decoder's table, joined again, are the operand. -/
theorem arg_decodeFields (op : OpWord) (arg : ArgWord) : (decodeFields op arg).arg = arg := by
  unfold decodeFields
  split
  case h_1 | h_6 | h_9 | h_10 | h_11 | h_12 | h_13 => rfl
  case h_2 => exact append_extractLsb' (m := 7) (n := 9) arg
  case h_4 => exact append_extractLsb' (m := 12) (n := 4) arg
  all_goals exact append_extractLsb' (m := 8) (n := 8) arg

/-- Settles O2: decoding keeps the opcode and the operand, and these two fields are the word. -/
theorem encodeOfDecode : Obligations.EncodeOfDecode := by
  intro w
  rw [encode, decode, op_decodeFields, arg_decodeFields, packWord_fields]

/-! ### The opcode selects the command (R62, R63) -/

/-- A word whose quotient by 65536 is `op` decodes by the row of `op`, whatever its operand is. -/
theorem decode_of_opcode {w : CmdWord} (op : OpWord) (h : w.toNat / 65536 = op.toNat) :
    decode w = decodeFields op (argField w) := by
  rw [decode, BitVec.eq_of_toNat_eq ((opField_toNat w).trans h)]

theorem decode_of_reservedAB {w : CmdWord} (h : w.toNat / 65536 = 10 ∨ w.toNat / 65536 = 11) :
    ∃ x a, decode w = .reservedAB x a ∧ x.toNat = w.toNat / 65536 - 10 ∧ a.toNat = w.toNat % 65536 := by
  obtain h | h := h
  · exact ⟨0#1, _, decode_of_opcode 0xA#4 h, by rw [h]; rfl, argField_toNat w⟩
  · exact ⟨1#1, _, decode_of_opcode 0xB#4 h, by rw [h]; rfl, argField_toNat w⟩

theorem decode_of_reservedCF {w : CmdWord} (h : 12 ≤ w.toNat / 65536) :
    ∃ x a, decode w = .reservedCF x a ∧ x.toNat = w.toNat / 65536 - 12 ∧ a.toNat = w.toNat % 65536 := by
  rw [← opField_toNat] at h ⊢
  refine ⟨_, _, decodeFields_of_ge h _, ?_, argField_toNat w⟩
  have := (opField w).isLt
  rw [extractLsb'_low_toNat]
  omega

/-- Settles O3: one row of the decoder's table for each opcode, with the fields of its format as quotient and remainder. -/
theorem opcodeSelectsCommandAndOperands : Obligations.OpcodeSelectsCommandAndOperands := by
  intro w
  refine ⟨fun h => ?_, fun h => ?_, fun h => ?_, fun h => ?_, fun h => ?_, fun h => ?_, fun h => ?_, fun h => ?_,
    fun h => ?_, fun h => ?_, decode_of_reservedAB, decode_of_reservedCF⟩
  · exact ⟨_, decode_of_opcode 0x0#4 h, argField_toNat w⟩
  · exact ⟨_, _, decode_of_opcode 0x1#4 h, argField_cut_toNat w rfl⟩
  · exact ⟨_, _, decode_of_opcode 0x2#4 h, argField_cut_toNat w rfl⟩
  · exact ⟨_, _, decode_of_opcode 0x3#4 h, argField_cut_toNat w rfl⟩
  · exact ⟨_, _, decode_of_opcode 0x4#4 h, argField_cut_toNat w rfl⟩
  · exact ⟨_, decode_of_opcode 0x5#4 h, argField_toNat w⟩
  · exact ⟨_, _, decode_of_opcode 0x6#4 h, argField_cut_toNat w rfl⟩
  · exact ⟨_, _, decode_of_opcode 0x7#4 h, argField_cut_toNat w rfl⟩
  · exact ⟨_, decode_of_opcode 0x8#4 h, argField_toNat w⟩
  · exact ⟨_, decode_of_opcode 0x9#4 h, argField_toNat w⟩

/-! ### The words of the assembler's forms (R67) -/

theorem encode_toNat (i : Instr) : (encode i).toNat = i.op.toNat * 65536 + i.arg.toNat :=
  append_toNat i.op i.arg

/-- The word of a command as a number, from its opcode and the number of its operand. -/
theorem encode_eq_ofNat {i : Instr} {n : Nat} (op : OpWord) (hop : i.op = op) (harg : i.arg.toNat = n) :
    encode i = BitVec.ofNat 20 (op.toNat * 65536 + n) := by
  rw [← hop, ← harg, ← encode_toNat, BitVec.ofNat_toNat, BitVec.setWidth_eq]

/-- A field below SBZ bits that are 0 is the operand's number (R61). -/
theorem zero_append_ofNat_toNat (m : Nat) {n v : Nat} (h : v < 2 ^ n) :
    (0#m ++ BitVec.ofNat n v).toNat = v := by
  rw [append_toNat, BitVec.toNat_ofNat, BitVec.toNat_ofNat, Nat.zero_mod, Nat.zero_mul, Nat.zero_add, Nat.mod_eq_of_lt h]

theorem asmMuteEnc_eq {f : Nat} (h : f ≤ 15) : asmMuteEnc f = BitVec.ofNat 20 (0x30000 + f) :=
  encode_eq_ofNat 0x3#4 rfl (zero_append_ofNat_toNat 12 (Nat.lt_succ_of_le h))

theorem asmCkAdd_eq {x : Nat} (h : x ≤ 255) : asmCkAdd x = BitVec.ofNat 20 (0x60000 + x) :=
  encode_eq_ofNat 0x6#4 rfl (zero_append_ofNat_toNat 8 (Nat.lt_succ_of_le h))

theorem asmCkRec_eq {x : Nat} (h : x ≤ 255) : asmCkRec x = BitVec.ofNat 20 (0x70000 + x) :=
  encode_eq_ofNat 0x7#4 rfl (zero_append_ofNat_toNat 8 (Nat.lt_succ_of_le h))

theorem encode_insEnc_eq {v : Nat} (h : v ≤ 511) :
    encode (.insEnc 0#7 (BitVec.ofNat 9 v)) = BitVec.ofNat 20 (0x10000 + v) :=
  encode_eq_ofNat 0x1#4 rfl (zero_append_ofNat_toNat 7 (Nat.lt_succ_of_le h))

theorem encode_muteDec_eq {b : Nat} (h : b ≤ 255) :
    encode (.muteDec 0#8 (BitVec.ofNat 8 b)) = BitVec.ofNat 20 (0x40000 + b) :=
  encode_eq_ofNat 0x4#4 rfl (zero_append_ofNat_toNat 8 (Nat.lt_succ_of_le h))

theorem encode_insDec_eq {b0 b1 : Nat} (h0 : b0 ≤ 255) (h1 : b1 ≤ 255) :
    encode (.insDec (BitVec.ofNat 8 b0) (BitVec.ofNat 8 b1)) = BitVec.ofNat 20 (0x20000 + 256 * b0 + b1) := by
  have harg : (BitVec.ofNat 8 b0 ++ BitVec.ofNat 8 b1).toNat = 256 * b0 + b1 := by
    rw [append_toNat, BitVec.toNat_ofNat, BitVec.toNat_ofNat]
    omega
  rw [Nat.add_assoc]
  exact encode_eq_ofNat 0x2#4 rfl harg

theorem allBytes_singleton_iff (x : Nat) : allBytes [x] = true ↔ x ≤ 255 := by
  rw [allBytes_iff, List.forall_mem_singleton, Nat.lt_succ_iff]

theorem allBytes_pair_iff (x y : Nat) : allBytes [x, y] = true ↔ x ≤ 255 ∧ y ≤ 255 := by
  rw [allBytes_iff, List.forall_mem_cons, List.forall_mem_singleton, Nat.lt_succ_iff, Nat.lt_succ_iff]

/-- A form with a range check answers one word in the range and none outside it, in either spelling of the range. -/
theorem ite_some_singleton_congr {c d : Prop} [Decidable c] [Decidable d] {w w' : CmdWord} (hc : c ↔ d)
    (hw : d → w = w') : (if c then some [w] else none) = if d then some [w'] else none :=
  ite_congr (propext hc) (fun h => by rw [hw h]) (fun _ => rfl)

theorem assemble_word (w : Nat) : assemble (.word w) = if w < 2 ^ 20 then some [BitVec.ofNat 20 w] else none := by
  split_ifs with h
  · rw [assemble, commandWord_of_lt h]
  · rw [assemble, commandWord_of_ge h]

/-- Settles O49: each form with an operand is a range check in front of the form's word. -/
theorem assemblerForms : Obligations.AssemblerForms := by
  refine ⟨rfl, rfl, rfl, rfl, fun v => ?_, fun b0 b1 => ?_, fun f => ?_, fun b => ?_, fun x => ?_, fun x => ?_,
    assemble_word⟩
  · exact ite_some_singleton_congr Nat.lt_succ_iff encode_insEnc_eq
  · exact ite_some_singleton_congr (allBytes_pair_iff b0 b1) fun ⟨h0, h1⟩ => encode_insDec_eq h0 h1
  · exact ite_some_singleton_congr Nat.lt_succ_iff asmMuteEnc_eq
  · exact ite_some_singleton_congr (allBytes_singleton_iff b) encode_muteDec_eq
  · exact ite_some_singleton_congr (allBytes_singleton_iff x) asmCkAdd_eq
  · exact ite_some_singleton_congr (allBytes_singleton_iff x) asmCkRec_eq

/-! ### What the assembler writes is well formed (R67, log entry 9) -/

/-- The word decodes to a well-formed command. -/
def WellFormedWord (w : CmdWord) : Prop := (decode w).wellFormed = true

/-- A line's words, if it has some, are all well formed. -/
def WritesWellFormed (line : Option (List CmdWord)) : Prop :=
  ∀ ws, line = some ws → ∀ w ∈ ws, WellFormedWord w

theorem wellFormedWord_encode {i : Instr} (h : i.wellFormed = true) : WellFormedWord (encode i) := by
  rw [WellFormedWord, decodeOfEncode, h]

theorem writesWellFormed_some {ws : List CmdWord} (h : ∀ w ∈ ws, WellFormedWord w) : WritesWellFormed (some ws) := by
  rintro _ ⟨⟩
  exact h

theorem writesWellFormed_encode {i : Instr} (h : i.wellFormed = true) : WritesWellFormed (some [encode i]) :=
  writesWellFormed_some (List.forall_mem_singleton.2 (wellFormedWord_encode h))

/-- A range check in front of a line can only refuse it. -/
theorem writesWellFormed_ite {c : Prop} [Decidable c] {line : Option (List CmdWord)} (h : WritesWellFormed line) :
    WritesWellFormed (if c then line else none) :=
  fun ws hws => h ws (Option.ite_none_right_eq_some.1 hws).2

/-- The lists of R68: CK.CLR, a command for each byte, and the readouts. -/
theorem writesWellFormed_checksum {f : Nat → CmdWord} (hf : ∀ x, WellFormedWord (f x)) {readouts : List CmdWord}
    (hreadouts : ∀ w ∈ readouts, WellFormedWord w) (xs : List Nat) :
    WritesWellFormed (some (encode (.ckClr 0#16) :: (xs.map f ++ readouts))) :=
  writesWellFormed_some (List.forall_mem_cons.2 ⟨wellFormedWord_encode rfl,
    List.forall_mem_append.2 ⟨List.forall_mem_map.2 fun x _ => hf x, hreadouts⟩⟩)

theorem writesWellFormed_assemble {l : AsmLine} (hword : ∀ n, l ≠ .word n) : WritesWellFormed (assemble l) := by
  have hrd : WellFormedWord (encode (.ckRd 0#16)) := wellFormedWord_encode rfl
  have hstat : WellFormedWord (encode (.ckStat 0#16)) := wellFormedWord_encode rfl
  cases l with
  | word n => exact absurd rfl (hword n)
  | nop | ckClr | ckRd | ckStat | muteNone | muteAll => exact writesWellFormed_encode rfl
  | insEnc | insDec | muteEnc | muteDec | ckAdd | ckRec | muteActive =>
    exact writesWellFormed_ite (writesWellFormed_encode rfl)
  | ckSum xs =>
    exact writesWellFormed_ite (writesWellFormed_checksum (fun _ => wellFormedWord_encode rfl)
      (List.forall_mem_singleton.2 hrd) xs)
  | ckRecord rs =>
    exact writesWellFormed_ite (writesWellFormed_checksum (fun _ => wellFormedWord_encode rfl)
      (List.forall_mem_cons.2 ⟨hrd, List.forall_mem_singleton.2 hstat⟩) rs)

/-- Settles O50: every other line writes encodings of well-formed commands, and these decode back (O1). -/
theorem assemblerWritesWellFormed : Obligations.AssemblerWritesWellFormed :=
  fun _ ws w hline hword hmem => writesWellFormed_assemble hword ws hline w hmem

/-! ### Pseudo-instructions (R68) -/

/-- Distinct powers of two do not carry: bit `j` of the flags says whether section `j + 1` was listed. -/
theorem sectionFlags_testBit {ss : List Nat} (hnodup : ss.Nodup) (hpos : ∀ x ∈ ss, 1 ≤ x) (j : Nat) :
    (sectionFlags ss).testBit j = decide (j + 1 ∈ ss) := by
  have hsum : sectionFlags ss = ∑ i ∈ (ss.map (· - 1)).toFinset, 2 ^ i := by
    rw [List.sum_toFinset _ (hnodup.map_on ?_), List.map_map]
    · rfl
    · intro x hx y hy h
      have := hpos x hx
      have := hpos y hy
      omega
  have hmem : j ∈ ss.map (· - 1) ↔ j + 1 ∈ ss := by
    rw [List.mem_map]
    refine ⟨?_, fun h => ⟨j + 1, h, Nat.add_sub_cancel j 1⟩⟩
    rintro ⟨x, hx, rfl⟩
    rwa [Nat.sub_add_cancel (hpos x hx)]
  rw [Bool.eq_iff_iff, decide_eq_true_iff, ← hmem, ← Nat.mem_bitIndices, ← List.mem_toFinset, hsum,
    Finset.toFinset_bitIndices_sum_two_pow, List.mem_toFinset]

theorem sectionFlags_le {ss : List Nat} (hnodup : ss.Nodup) (hrange : ∀ x ∈ ss, 1 ≤ x ∧ x ≤ 4) :
    sectionFlags ss ≤ 15 := by
  refine Nat.le_of_lt_succ (Nat.lt_pow_two_of_testBit (n := 4) _ fun j hj => ?_)
  rw [sectionFlags_testBit hnodup fun x hx => (hrange x hx).1, decide_eq_false_iff_not]
  intro hmem
  have := (hrange _ hmem).2
  omega

theorem assemble_muteEnc {f : Nat} (h : f ≤ 15) : assemble (.muteEnc f) = some [asmMuteEnc f] :=
  if_pos (Nat.lt_succ_of_le h)

theorem assemble_muteActive {ss : List Nat} (hne : ss ≠ []) (hnodup : ss.Nodup)
    (hrange : ∀ x ∈ ss, 1 ≤ x ∧ x ≤ 4) : assemble (.muteActive ss) = some [asmMuteEnc (sectionFlags ss)] :=
  if_pos ⟨hne, (sectionsOk_iff ss).2 ⟨hrange, hnodup⟩⟩

theorem assemble_ckSum {xs : List Nat} (hne : xs ≠ []) (hbytes : ∀ x ∈ xs, x ≤ 255) :
    assemble (.ckSum xs) =
      some (0x50000#20 :: (xs.map (fun x => BitVec.ofNat 20 (0x60000 + x)) ++ [0x80000#20])) := by
  rw [← List.map_congr_left fun x hx => asmCkAdd_eq (hbytes x hx)]
  exact if_pos ⟨hne, (allBytes_iff xs).2 fun x hx => Nat.lt_succ_of_le (hbytes x hx)⟩

theorem assemble_ckRecord {rs : List Nat} (hlen : rs.length = 103) (hbytes : ∀ x ∈ rs, x ≤ 255) :
    assemble (.ckRecord rs) =
      some (0x50000#20 :: (rs.map (fun x => BitVec.ofNat 20 (0x70000 + x)) ++ [0x80000#20, 0x90000#20])) := by
  rw [← List.map_congr_left fun x hx => asmCkRec_eq (hbytes x hx)]
  exact if_pos ⟨hlen, (allBytes_iff rs).2 fun x hx => Nat.lt_succ_of_le (hbytes x hx)⟩

/-- Settles O51: the flags of distinct sections are a sum of distinct powers of two, read off bit by bit. -/
theorem pseudoInstructionExpansions : Obligations.PseudoInstructionExpansions := by
  refine ⟨fun ss hne hnodup hrange => ?_, by decide, rfl, rfl, fun xs => assemble_ckSum, fun rs => assemble_ckRecord⟩
  have hle := sectionFlags_le hnodup hrange
  refine ⟨sectionFlags ss, rfl, hle, ?_, ?_, fun x hlow _ => ?_⟩
  · rw [assemble_muteActive hne hnodup hrange, assemble_muteEnc hle]
  · rw [assemble_muteEnc hle, Option.isSome_some]
  · rw [sectionFlags_testBit hnodup fun y hy => (hrange y hy).1, Nat.sub_add_cancel hlow]

end Sys2Proof.Machine

/-! SUPPORT. The bit-packed field codec (41_field_codec.md): when each codec command completes, the arithmetic of its
response data, and the inverse laws of its encoders and decoders. -/

namespace Sys2Proof.Machine

/-! ### The word of a command with a cut operand (R61) -/

/-- An operand laid out as two parts adds both parts to the opcode's multiple of 65536. -/
theorem encode_toNat_of_arg {i : Instr} {p q : Nat} (op : OpWord) (hop : i.op = op) (harg : i.arg.toNat = p + q) :
    (encode i).toNat = op.toNat * 65536 + p + q := by
  rw [encode_toNat, hop, harg, Nat.add_assoc]

/-- A word decodes to the command that has its opcode and its operand's number. -/
theorem decode_packWord {i : Instr} {d : DataWord} (h : d.toNat = i.arg.toNat) : decode (packWord i.op d) = i := by
  rw [BitVec.eq_of_toNat_eq h]
  exact decodeOfEncode i

/-! ### The response data as arithmetic -/

theorem insMsb_toNat (v : InsNumber) : (insMsb v).toNat = v.toNat / 128 := by
  have hv := v.isLt
  rw [insMsb, BitVec.toNat_setWidth, extractLsb'_high_toNat v (rfl : 9 = 2 + 7)]
  omega

theorem insLsb_toNat (v : InsNumber) : (insLsb v).toNat = v.toNat % 128 := by
  rw [insLsb, BitVec.toNat_setWidth, extractLsb'_low_toNat]
  omega

theorem insBytes_toNat (v : InsNumber) : (insBytes v).toNat = v.toNat / 128 * 256 + v.toNat % 128 := by
  rw [← insMsb_toNat, ← insLsb_toNat]
  exact append_toNat (insMsb v) (insLsb v)

theorem zero_append_toNat (m : Nat) {n : Nat} (b : BitVec n) : (0#m ++ b).toNat = b.toNat := by
  rw [append_toNat, BitVec.toNat_ofNat, Nat.zero_mod, Nat.zero_mul, Nat.zero_add]

theorem muteByte_toNat (f : ActiveFlags) : (muteByte f).toNat = f.toNat := by
  have hf := f.isLt
  rw [muteByte, BitVec.toNat_setWidth, zero_append_toNat]
  omega

theorem muteFlags_toNat (b : Byte) : (muteFlags b).toNat = b.toNat % 16 := by
  rw [muteFlags, BitVec.toNat_setWidth, extractLsb'_low_toNat]
  omega

theorem muteHighSet_iff (b : Byte) : muteHighSet b = true ↔ b.toNat / 16 ≠ 0 := by
  rw [muteHighSet, bne_iff_ne, ← BitVec.toNat_inj.ne, extractLsb'_high_toNat b (rfl : 8 = 4 + 4)]
  rfl

/-! ### The status of the decoders -/

theorem insDec_ok {b0 b1 : Byte} (h0 : b0.toNat ≤ 3) (h1 : b1.toNat ≤ 127) (s : State) :
    commandStatus (.insDec b0 b1) s = .ok :=
  if_neg (by rw [insOutOfRange_iff]; omega)

theorem insDec_range {b0 b1 : Byte} (h : 3 < b0.toNat ∨ 127 < b1.toNat) (s : State) :
    commandStatus (.insDec b0 b1) s = .range :=
  if_pos ((insOutOfRange_iff b0 b1).2 h)

theorem muteDec_ok {b : Byte} (h : b.toNat / 16 = 0) (s : State) : commandStatus (.muteDec 0#8 b) s = .ok :=
  if_neg fun hset => (muteHighSet_iff b).1 hset h

theorem muteDec_range {b : Byte} (h : b.toNat / 16 ≠ 0) (s : State) : commandStatus (.muteDec 0#8 b) s = .range :=
  if_pos ((muteHighSet_iff b).2 h)

/-! ### The two outcomes of a codec command (R80, R142) -/

theorem pureResponse_respond (s : State) (d : DataWord) : PureResponse d.toNat s (s.respond .ok d) :=
  ⟨⟨rfl, rfl, rfl⟩, ⟨rfl, rfl, rfl, rfl⟩, sameOutside_refl s⟩

theorem errorResponse_respond (s : State) (e : Status) : ErrorResponse e s (s.respond e 0x0000#16) :=
  ⟨⟨rfl, rfl, rfl⟩, ⟨rfl, rfl, rfl, rfl⟩, sameOutside_refl s⟩

/-- A codec command without an error changes the three response registers only (R80). -/
theorem exec_codec_of_ok {i : Instr} {s : State} (hcodec : isCodec i = true) (hok : commandStatus i s = .ok) :
    exec i s = .next (s.respond .ok (responseData i s)) := by
  rw [exec_of_ok hok, checksumAfter_of_pure (.inl hcodec)]

theorem exec_codec_pureResponse {i : Instr} {s : State} {d : Nat} (hcodec : isCodec i = true)
    (hok : commandStatus i s = .ok) (hdata : (responseData i s).toNat = d) :
    ∃ t, exec i s = .next t ∧ PureResponse d s t :=
  ⟨_, exec_codec_of_ok hcodec hok, hdata ▸ pureResponse_respond s _⟩

theorem exec_errorResponse {i : Instr} {s : State} {e : Status} (hstatus : commandStatus i s = e) (hne : e ≠ .ok) :
    ∃ t, exec i s = .next t ∧ ErrorResponse e s t := by
  subst hstatus
  exact ⟨_, exec_of_error hne, errorResponse_respond s _⟩

theorem exec_rangeResponse {i : Instr} {s : State} (hstatus : commandStatus i s = .range) :
    ∃ t, exec i s = .next t ∧ ErrorResponse .range s t :=
  exec_errorResponse hstatus (by decide)

/-- An SBZ bit that is set gives the RANGE response (R61). -/
theorem exec_of_sbzSet {i : Instr} (h : i.sbzClear = false) (s : State) :
    ∃ t, exec i s = .next t ∧ ErrorResponse .range s t :=
  exec_rangeResponse (commandStatus_of_sbzSet h s)

/-! ### The result of each codec command -/

/-- Settles O17. -/
theorem insEncResult : Obligations.InsEncResult := by
  intro z v s
  refine ⟨encode_toNat_of_arg 0x1#4 rfl (append_toNat z v), fun hz => ?_, fun hz => ?_⟩
  · subst hz
    exact exec_codec_pureResponse rfl rfl (insBytes_toNat v)
  · exact exec_of_sbzSet (i := .insEnc z v) (beq_false_of_ne hz) s

/-- Settles O18. -/
theorem insDecResult : Obligations.InsDecResult := by
  intro b0 b1 s
  refine ⟨encode_toNat_of_arg 0x2#4 rfl (append_toNat b0 b1), fun ⟨h0, h1⟩ => ?_, fun hout => ?_⟩
  · exact exec_codec_pureResponse rfl (insDec_ok h0 h1 s) (insValue_toNat b0 b1)
  · exact exec_rangeResponse (insDec_range hout s)

/-- Settles O19. -/
theorem muteEncResult : Obligations.MuteEncResult := by
  intro z f s
  refine ⟨encode_toNat_of_arg 0x3#4 rfl (append_toNat z f), fun hz => ?_, fun hz => ?_⟩
  · subst hz
    exact exec_codec_pureResponse rfl rfl (muteByte_toNat f)
  · exact exec_of_sbzSet (i := .muteEnc z f) (beq_false_of_ne hz) s

/-- Settles O20: the SBZ bits are checked before the high nibble. -/
theorem muteDecResult : Obligations.MuteDecResult := by
  intro z b s
  refine ⟨encode_toNat_of_arg 0x4#4 rfl (append_toNat z b), fun ⟨hz, hlow⟩ => ?_, fun hbad => ?_⟩
  · subst hz
    exact exec_codec_pureResponse rfl (muteDec_ok hlow s) (muteFlags_toNat b)
  · by_cases hz : z = 0#8
    · subst hz
      exact exec_rangeResponse (muteDec_range (hbad.resolve_left (absurd rfl)) s)
    · exact exec_of_sbzSet (i := .muteDec z b) (beq_false_of_ne hz) s

/-! ### Inverse laws (R87) -/

/-- `i` completes, and so does the command with opcode `op` and `i`'s DOUT as its operand on the state that `i` left, with
the data `n`. -/
def GivesBack (i : Instr) (op : OpWord) (n : Nat) (s : State) : Prop :=
  ∃ t u, exec i s = .next t ∧ t.lastErr = .ok ∧
    exec (decode (packWord op t.dout)) t = .next u ∧ u.lastErr = .ok ∧ u.dout.toNat = n

/-- The second command reads nothing of the first one's response but the operand it was given (R112), so both can be judged
on the first state. -/
theorem givesBack_of_arg {i j : Instr} {n : Nat} {s : State} (hcodec : isCodec i = true)
    (hi : commandStatus i s = .ok) (harg : (responseData i s).toNat = j.arg.toNat)
    (hj : commandStatus j s = .ok) (hdata : (responseData j s).toNat = n) : GivesBack i j.op n s := by
  refine ⟨_, (checksumAfter j s).respond .ok (responseData j s), exec_codec_of_ok hcodec hi, rfl, ?_, rfl, hdata⟩
  rw [State.respond_dout, decode_packWord harg, exec_respond, exec_of_ok hj]

theorem insEnc_givesBack (v : InsNumber) (s : State) : GivesBack (.insEnc 0#7 v) 0x2#4 v.toNat s := by
  have hv := v.isLt
  have hstatus : commandStatus (.insDec (insMsb v) (insLsb v)) s = .ok :=
    insDec_ok (by rw [insMsb_toNat]; omega) (by rw [insLsb_toNat]; omega) s
  have hjoin : (insValue (insMsb v) (insLsb v)).toNat = v.toNat := by
    rw [insValue_toNat, insMsb_toNat, insLsb_toNat]
    exact Nat.div_add_mod' v.toNat 128
  exact givesBack_of_arg (j := .insDec (insMsb v) (insLsb v)) rfl rfl rfl hstatus hjoin

theorem insDec_givesBack {b0 b1 : Byte} (h0 : b0.toNat ≤ 3) (h1 : b1.toNat ≤ 127) (s : State) :
    GivesBack (.insDec b0 b1) 0x1#4 (b0 ++ b1).toNat s := by
  have hv : (BitVec.ofNat 9 (b0.toNat * 128 + b1.toNat)).toNat = b0.toNat * 128 + b1.toNat :=
    (BitVec.toNat_ofNat _ _).trans (Nat.mod_eq_of_lt (by omega))
  generalize BitVec.ofNat 9 (b0.toNat * 128 + b1.toNat) = v at hv
  have harg : (insValue b0 b1).toNat = (0#7 ++ v).toNat := by
    rw [insValue_toNat, zero_append_toNat, hv]
  have hsplit : (insBytes v).toNat = (b0 ++ b1).toNat := by
    rw [insBytes_toNat, append_toNat, hv]
    omega
  exact givesBack_of_arg (j := .insEnc 0#7 v) rfl (insDec_ok h0 h1 s) harg rfl hsplit

theorem muteEnc_givesBack (f : ActiveFlags) (s : State) : GivesBack (.muteEnc 0#12 f) 0x4#4 f.toNat s := by
  have hf := f.isLt
  have hbyte : (0#4 ++ f).toNat = f.toNat := zero_append_toNat 4 f
  have harg : (muteByte f).toNat = (0#8 ++ (0#4 ++ f)).toNat := by
    rw [muteByte_toNat, zero_append_toNat, hbyte]
  have hstatus : commandStatus (.muteDec 0#8 (0#4 ++ f)) s = .ok := muteDec_ok (by rw [hbyte]; omega) s
  have hflags : (muteFlags (0#4 ++ f)).toNat = f.toNat := by
    rw [muteFlags_toNat, hbyte]
    exact Nat.mod_eq_of_lt hf
  exact givesBack_of_arg (j := .muteDec 0#8 (0#4 ++ f)) rfl rfl harg hstatus hflags

theorem muteDec_givesBack {b : Byte} (h : b.toNat ≤ 0x0F) (s : State) :
    GivesBack (.muteDec 0#8 b) 0x3#4 b.toNat s := by
  have hnibble : (b.extractLsb' 0 4).toNat = b.toNat % 16 := extractLsb'_low_toNat b 4
  have harg : (muteFlags b).toNat = (0#12 ++ b.extractLsb' 0 4).toNat := by
    rw [muteFlags_toNat, zero_append_toNat, hnibble]
  have hbyte : (muteByte (b.extractLsb' 0 4)).toNat = b.toNat := by
    rw [muteByte_toNat, hnibble]
    omega
  exact givesBack_of_arg (j := .muteEnc 0#12 (b.extractLsb' 0 4)) rfl (muteDec_ok (by omega) s) harg rfl hbyte

/-- Settles O21: the four inverse laws, and the RANGE response of both decoders outside their domains. -/
theorem codecInverseLaws : Obligations.CodecInverseLaws := by
  refine ⟨insEnc_givesBack, fun b0 b1 s h0 h1 => ?_, muteEnc_givesBack, fun b s h => muteDec_givesBack h s,
    fun b0 b1 s h => ?_, fun b s h => ?_⟩
  · obtain ⟨t, u, ht, htOk, hu, huOk, hdata⟩ := insDec_givesBack h0 h1 s
    exact ⟨t, u, ht, htOk, hu, huOk, BitVec.eq_of_toNat_eq hdata⟩
  · obtain ⟨t, ht, ⟨herr, hdout, -⟩, -⟩ := exec_rangeResponse (insDec_range h s)
    exact ⟨t, ht, herr, hdout⟩
  · obtain ⟨t, ht, ⟨herr, hdout, -⟩, -⟩ := exec_rangeResponse (muteDec_range (b := b) (by omega) s)
    exact ⟨t, ht, herr, hdout⟩

/-! ### The polarity of the flags (R86) -/

/-- A remainder by 16 has the low four bits of the number, each in its place, and no others. -/
theorem getLsbD_of_toNat_eq_mod {n : Nat} {d : DataWord} {b : BitVec n} (h : d.toNat = b.toNat % 2 ^ 4) (i : Nat) :
    d.getLsbD i = (decide (i < 4) && b.getLsbD i) := by
  rw [BitVec.getLsbD, h, Nat.testBit_mod_two_pow, BitVec.getLsbD]

theorem muteByte_getLsbD (f : ActiveFlags) (i : Nat) :
    (muteByte f).getLsbD i = (decide (i < 4) && f.getLsbD i) :=
  getLsbD_of_toNat_eq_mod ((muteByte_toNat f).trans (Nat.mod_eq_of_lt f.isLt).symm) i

theorem muteFlags_getLsbD (b : Byte) (i : Nat) :
    (muteFlags b).getLsbD i = (decide (i < 4) && b.getLsbD i) :=
  getLsbD_of_toNat_eq_mod (muteFlags_toNat b) i

/-- Settles O22. -/
theorem mutePolarityPreserved : Obligations.MutePolarityPreserved := by
  refine ⟨fun f s => ?_, fun b s h => ?_⟩
  · exact ⟨_, exec_codec_of_ok (i := .muteEnc 0#12 f) rfl rfl, muteByte_getLsbD f⟩
  · exact ⟨_, exec_codec_of_ok rfl (muteDec_ok (b := b) (by omega) s), muteFlags_getLsbD b⟩

/-! ### Codec commands are pure functions of their operand (R80) -/

theorem commandStatus_codec_congr {i : Instr} (hcodec : isCodec i = true) (s s' : State) :
    commandStatus i s' = commandStatus i s := by
  cases i with
  | insEnc | insDec | muteEnc | muteDec => rfl
  | _ => cases hcodec

theorem responseData_codec_congr {i : Instr} (hcodec : isCodec i = true) (s s' : State) :
    responseData i s' = responseData i s := by
  cases i with
  | insEnc | insDec | muteEnc | muteDec => rfl
  | _ => cases hcodec

theorem opDefined_of_codec {i : Instr} (hcodec : isCodec i = true) : i.opDefined = true := by
  cases i with
  | insEnc | insDec | muteEnc | muteDec => rfl
  | _ => cases hcodec

/-- ILLEGAL needs a reserved opcode and OVERRUN needs CK.REC, so RANGE is the only error of a codec command. -/
theorem commandStatus_codec_eq_range {i : Instr} {s : State} (hcodec : isCodec i = true)
    (herror : commandStatus i s ≠ .ok) : commandStatus i s = .range := by
  cases hsbz : i.sbzClear with
  | false => exact commandStatus_of_sbzSet hsbz s
  | true =>
    rw [commandStatus_of_sbzClear hsbz] at herror ⊢
    cases hop : operandStatus i s with
    | ok => exact absurd hop herror
    | range => rfl
    | illegal =>
      have hreserved := (operandStatus_eq_illegal_iff i s).1 hop
      cases hreserved.symm.trans (opDefined_of_codec hcodec)
    | overrun =>
      obtain ⟨⟨sbz, x, rfl⟩, -⟩ := (operandStatus_eq_overrun_iff i s).1 hop
      cases hcodec

/-- Settles O23: the status and the data are the same in any two states, and the status is OK or RANGE. -/
theorem codecCommandsArePure : Obligations.CodecCommandsArePure := by
  intro i s s' hcodec
  have hstatus := commandStatus_codec_congr hcodec s s'
  by_cases hok : commandStatus i s = .ok
  · exact ⟨_, _, exec_codec_of_ok hcodec hok, exec_codec_of_ok hcodec (hstatus.trans hok),
      responseData_codec_congr hcodec s s', rfl, rfl, .inl (pureResponse_respond s _)⟩
  · exact ⟨_, _, exec_of_error hok, exec_of_error (hstatus ▸ hok), rfl, hstatus, rfl,
      .inr (commandStatus_codec_eq_range hcodec hok ▸ errorResponse_respond s _)⟩

end Sys2Proof.Machine

/-! SUPPORT. The rolling checksum accumulator (42_checksum.md): the next state of each checksum command, what the checksum
registers hold after any commands since CK.CLR, and the laws of the checksum that follow. -/

namespace Sys2Proof.Machine

/-! ### The checksum of a sum modulo 128 (R15, R101) -/

/-- The accumulator's sum modulo 128 shows the same checksum as the exact sum: no overflow can change the result (R101). -/
theorem ckval_toNat_of_mod {a : Sum7} {n : Nat} (h : a.toNat = n % 128) :
    (ckval a).toNat = (n + 0xA5) &&& 0x7F := by
  have hmask : (n + 0xA5) &&& 0x7F = (n + 0xA5) % 128 := and_ckMask _
  rw [ckval_toNat, h, hmask]
  omega

theorem ckData_toNat_of_mod {a : Sum7} {n : Nat} (h : a.toNat = n % 128) :
    (ckData a).toNat = (n + 0xA5) &&& 0x7F := by
  rw [← ckval_toNat_of_mod h, ckData_toNat, ckval_toNat]

theorem sum7_toNat_mod (a : Sum7) : a.toNat = a.toNat % 128 :=
  (Nat.mod_eq_of_lt a.isLt).symm

theorem addByte_comm (a : Sum7) (x y : Byte) : addByte (addByte a x) y = addByte (addByte a y) x := by
  apply BitVec.eq_of_toNat_eq
  simp only [addByte_toNat]
  omega

/-- Bit 7 of a byte weighs 128, so flipping it does not change the sum modulo 128 (R102). -/
theorem addByte_flipBit7 (a : Sum7) (x : Byte) : addByte a (x ^^^ 0x80#8) = addByte a x := by
  have hflip : (x ^^^ 0x80#8).toNat % 128 = x.toNat % 128 := by
    rw [BitVec.toNat_xor]
    exact (Nat.xor_mod_two_pow (n := 7)).trans (Nat.xor_zero _)
  apply BitVec.eq_of_toNat_eq
  rw [addByte_toNat, addByte_toNat]
  omega

/-! ### The next state of each checksum command -/

theorem exec_ckClr (s : State) : exec (.ckClr 0#16) s = .next (s.clearChecksum.respond .ok (ckData 0#7)) :=
  exec_of_ok rfl

theorem exec_ckAdd (x : Byte) (s : State) :
    exec (.ckAdd 0#8 x) s = .next ((s.setAcc (addByte s.acc x)).respond .ok (ckData (addByte s.acc x))) :=
  exec_of_ok rfl

theorem exec_ckRec_first {s : State} (hpos : s.pos.toNat = 0) (x : Byte) :
    exec (.ckRec 0#8 x) s = .next ((s.capture x).advance.respond .ok (ckData s.acc)) := by
  have hroom : s.pos.toNat ≠ 103 := by omega
  refine (execCkRec_of_room hroom x).trans ?_
  rw [checksumAfter_ckRec_first hpos, ok_eq, State.advance_acc, State.capture_acc]

theorem exec_ckRec_later {s : State} (hpos : s.pos.toNat ≠ 0) (hroom : s.pos.toNat ≠ 103) (x : Byte) :
    exec (.ckRec 0#8 x) s =
      .next ((s.setAcc (addByte s.acc x)).advance.respond .ok (ckData (addByte s.acc x))) := by
  refine (execCkRec_of_room hroom x).trans ?_
  rw [checksumAfter_ckRec_later hpos, ok_eq, State.advance_acc, State.setAcc_acc]

theorem ckRec_overrun {s : State} (hfull : s.pos.toNat = 103) (x : Byte) :
    commandStatus (.ckRec 0#8 x) s = .overrun :=
  if_pos hfull

theorem exec_ckRec_full {s : State} (hfull : s.pos.toNat = 103) (x : Byte) :
    exec (.ckRec 0#8 x) s = .next (s.respond .overrun 0x0000#16) := by
  have hstatus := ckRec_overrun hfull x
  rw [exec_of_error (by rw [hstatus]; decide), hstatus]

theorem exec_ckRd (s : State) : exec (.ckRd 0#16) s = .next (s.respond .ok (ckData s.acc)) :=
  exec_of_ok rfl

theorem exec_ckStat (s : State) :
    exec (.ckStat 0#16) s = .next (s.respond .ok (statData s.stored s.svalid s.pos)) :=
  exec_of_ok rfl

/-! ### The result of each checksum command (R105 to R109) -/

/-- The number of a word from its opcode, where the operand is one field. -/
theorem encode_toNat_of_op {i : Instr} (op : OpWord) (hop : i.op = op) :
    (encode i).toNat = op.toNat * 65536 + i.arg.toNat := by
  rw [encode_toNat, hop]

theorem statData_toNat (stored : Byte) (svalid : Bool) (pos : Pos7) :
    (statData stored svalid pos).toNat = stored.toNat * 256 + svalid.toNat * 128 + pos.toNat := by
  have hlow : (BitVec.ofBool svalid ++ pos).toNat = svalid.toNat * 128 + pos.toNat := by
    rw [append_toNat, BitVec.toNat_ofBool]
    rfl
  rw [Nat.add_assoc, ← hlow]
  exact append_toNat stored (BitVec.ofBool svalid ++ pos)

/-- Settles O24. -/
theorem ckClrResult : Obligations.CkClrResult := by
  intro z s
  refine ⟨encode_toNat_of_op 0x5#4 rfl, fun hz => ?_, fun hz => ?_⟩
  · subst hz
    exact ⟨_, exec_ckClr s, ⟨rfl, rfl, rfl⟩, rfl, rfl, rfl, rfl, sameOutside_clearChecksum s⟩
  · exact exec_of_sbzSet (i := .ckClr z) (beq_false_of_ne hz) s

/-- Settles O25. -/
theorem ckAddResult : Obligations.CkAddResult := by
  intro z x s
  refine ⟨encode_toNat_of_arg 0x6#4 rfl (append_toNat z x), fun hz => ?_, fun hz => ?_⟩
  · subst hz
    have hacc := addByte_toNat s.acc x
    exact ⟨_, exec_ckAdd x s, hacc, ⟨rfl, ckData_toNat_of_mod hacc, rfl⟩, rfl, rfl, rfl,
      sameOutside_setAcc s (addByte s.acc x)⟩
  · exact exec_of_sbzSet (i := .ckAdd z x) (beq_false_of_ne hz) s

/-- Settles O26, by the four cases of the rule: an SBZ bit, no room, the first byte, a later byte. -/
theorem ckRecResult : Obligations.CkRecResult := by
  intro z x s
  refine ⟨encode_toNat_of_arg 0x7#4 rfl (append_toNat z x), fun hz => ?_, ?_, ?_, ?_⟩
  · exact exec_of_sbzSet (i := .ckRec z x) (beq_false_of_ne hz) s
  · rintro ⟨rfl, hfull⟩
    exact ⟨_, exec_ckRec_full hfull x, errorResponse_respond s .overrun⟩
  · rintro ⟨rfl, hzero⟩
    have hnext : (s.capture x).advance.pos.toNat = 1 :=
      (advance_pos_toNat (by rw [State.capture_pos]; omega)).trans (congrArg (· + 1) hzero)
    exact ⟨_, exec_ckRec_first hzero x, rfl, rfl, rfl, hnext,
      ⟨rfl, ckData_toNat_of_mod (sum7_toNat_mod s.acc), rfl⟩, sameOutside_capture s x⟩
  · rintro ⟨rfl, hlow, hhigh⟩
    have hacc := addByte_toNat s.acc x
    exact ⟨_, exec_ckRec_later (by omega) (by omega) x, rfl, rfl, hacc,
      advance_pos_toNat (s := s.setAcc (addByte s.acc x)) hhigh, ⟨rfl, ckData_toNat_of_mod hacc, rfl⟩,
      sameOutside_setAcc s (addByte s.acc x)⟩

/-- Settles O27. -/
theorem ckRdResult : Obligations.CkRdResult := by
  intro z s
  refine ⟨encode_toNat_of_op 0x8#4 rfl, fun hz => ?_, fun hz => ?_⟩
  · subst hz
    exact ⟨_, exec_ckRd s, ckData_toNat_of_mod (sum7_toNat_mod s.acc) ▸ pureResponse_respond s _⟩
  · exact exec_of_sbzSet (i := .ckRd z) (beq_false_of_ne hz) s

/-- Settles O28. -/
theorem ckStatResult : Obligations.CkStatResult := by
  intro z s
  refine ⟨encode_toNat_of_op 0x9#4 rfl, fun hz => ?_, fun hz => ?_⟩
  · subst hz
    exact ⟨_, exec_ckStat s, statData_toNat s.stored s.svalid s.pos ▸ pureResponse_respond s _⟩
  · exact exec_of_sbzSet (i := .ckStat z) (beq_false_of_ne hz) s

/-- Settles O31: flipping bit 7 changes no sum; CK.REC at position 0 sums nothing. -/
theorem inputBit7NeverChangesChecksum : Obligations.InputBit7NeverChangesChecksum := by
  intro x s
  refine ⟨⟨_, exec_ckAdd x s, rfl, ?_⟩, fun hroom => ?_⟩
  · rw [exec_ckAdd, addByte_flipBit7]
  · by_cases hpos : s.pos.toNat = 0
    · exact ⟨_, _, exec_ckRec_first hpos x, exec_ckRec_first hpos _, rfl, rfl, rfl, rfl⟩
    · have hsum := addByte_flipBit7 s.acc x
      exact ⟨_, _, exec_ckRec_later hpos hroom x, exec_ckRec_later hpos hroom _, rfl, rfl, hsum,
        congrArg ckData hsum⟩

/-! ### The sum of some bytes (R100, R103) -/

theorem byteSum_append (xs ys : List Byte) : byteSum (xs ++ ys) = byteSum xs + byteSum ys := by
  rw [byteSum, List.map_append, List.sum_append, ← byteSum, ← byteSum]

theorem byteSum_nil : byteSum [] = 0 := rfl

theorem byteSum_singleton (x : Byte) : byteSum [x] = x.toNat := rfl

theorem byteSum_eq_of_perm {xs ys : List Byte} (h : xs.Perm ys) : byteSum xs = byteSum ys :=
  (h.map BitVec.toNat).sum_eq

theorem byteSum_take_add_drop (k : Nat) (xs : List Byte) :
    byteSum (xs.take k) + byteSum (xs.drop k) = byteSum xs := by
  rw [← byteSum_append, List.take_append_drop]

/-- The checksum of a record is that of its bytes 1 to 102: the two regions are all of the record but its byte 0. -/
theorem recordChecksum_eq {r : List Byte} (h : r.length = 103) :
    recordChecksum r = (byteSum r.tail + 0xA5) &&& 0x7F := by
  rw [recordChecksum, sectionData_eq_drop h, commonData, byteSum_take_add_drop, List.drop_one]

/-! ### The bytes that a sequence of commands carries (R104) -/

theorem addedBytes_append (is js : List Instr) : addedBytes (is ++ js) = addedBytes is ++ addedBytes js :=
  List.filterMap_append

theorem recordedBytes_append (is js : List Instr) :
    recordedBytes (is ++ js) = recordedBytes is ++ recordedBytes js :=
  List.filterMap_append

theorem carriedBytes_nil : addedBytes [] = [] ∧ recordedBytes [] = [] := ⟨rfl, rfl⟩

theorem carriedBytes_ckAdd (x : Byte) :
    addedBytes [.ckAdd 0#8 x] = [x] ∧ recordedBytes [.ckAdd 0#8 x] = [] := ⟨rfl, rfl⟩

theorem carriedBytes_ckRec (x : Byte) :
    addedBytes [.ckRec 0#8 x] = [] ∧ recordedBytes [.ckRec 0#8 x] = [x] := ⟨rfl, rfl⟩

theorem addAll_cons (x : Byte) (xs : List Byte) : addAll (x :: xs) = [.ckAdd 0#8 x] ++ addAll xs := rfl

theorem recAll_cons (x : Byte) (xs : List Byte) : recAll (x :: xs) = [.ckRec 0#8 x] ++ recAll xs := rfl

theorem carriedBytes_addAll (xs : List Byte) : addedBytes (addAll xs) = xs ∧ recordedBytes (addAll xs) = [] := by
  induction xs with
  | nil => exact ⟨rfl, rfl⟩
  | cons x xs ih =>
    obtain ⟨hadded, hrecorded⟩ := ih
    rw [addAll_cons, addedBytes_append, recordedBytes_append, hadded, hrecorded]
    exact ⟨rfl, rfl⟩

theorem carriedBytes_recAll (xs : List Byte) : addedBytes (recAll xs) = [] ∧ recordedBytes (recAll xs) = xs := by
  induction xs with
  | nil => exact ⟨rfl, rfl⟩
  | cons x xs ih =>
    obtain ⟨hadded, hrecorded⟩ := ih
    rw [recAll_cons, addedBytes_append, recordedBytes_append, hadded, hrecorded]
    exact ⟨rfl, rfl⟩

/-- A command carries a byte for the sum, or the next byte of a record, or no byte. -/
theorem carriedBytes_cases (i : Instr) :
    (∃ x, i = .ckAdd 0#8 x) ∨ (∃ x, i = .ckRec 0#8 x) ∨ (addedBytes [i] = [] ∧ recordedBytes [i] = []) := by
  cases i with
  | ckAdd sbz x =>
    by_cases hz : sbz = 0#8
    · exact .inl ⟨x, by rw [hz]⟩
    · exact .inr (.inr ⟨by simp [addedBytes, hz], rfl⟩)
  | ckRec sbz x =>
    by_cases hz : sbz = 0#8
    · exact .inr (.inl ⟨x, by rw [hz]⟩)
    · exact .inr (.inr ⟨rfl, by simp [recordedBytes, hz]⟩)
  | _ => exact .inr (.inr ⟨rfl, rfl⟩)

/-- A command that carries no byte and is no CK.CLR writes no checksum register, whether it completes or not (R32). -/
theorem exec_of_no_carried_byte {i : Instr} (hclr : i ≠ .ckClr 0#16) (hadded : addedBytes [i] = [])
    (hrecorded : recordedBytes [i] = []) (s : State) : ∃ t, exec i s = .next t ∧ SameChecksum s t := by
  obtain ⟨u, e, d, hexec, hwrite, -⟩ := exec_writes i s
  refine ⟨_, hexec, ?_⟩
  cases hwrite with
  | none => exact ⟨rfl, rfl, rfl, rfl⟩
  | clear => exact absurd rfl hclr
  | add x => cases hadded
  | recordFirst x => cases hrecorded
  | recordLater x => cases hrecorded

/-! ### The checksum registers since CK.CLR (R21 to R24, R104) -/

/-- The checksum registers after CK.CLR and then commands that carried the bytes `added` in CK.ADD and `recorded` in CK.REC:
ACC sums those of `added` and those of `recorded` at positions 1 to 102, POS counts the accepted ones of `recorded`, and
STORED and SVALID hold the first of these. -/
structure Accounts (added recorded : List Byte) (s : State) : Prop where
  acc : s.acc.toNat = (byteSum added + byteSum ((recorded.drop 1).take 102)) % 128
  pos : s.pos.toNat = min 103 recorded.length
  stored : s.stored = recorded.headD 0x00#8
  svalid : s.svalid = true ↔ recorded ≠ []

/-- Past its first byte, a record's bytes are summed while there is room for them. -/
theorem summedBytes_cons (y : Byte) (ys : List Byte) : ((y :: ys).drop 1).take 102 = ys.take 102 := rfl

theorem accounts_clearChecksum (s : State) : Accounts [] [] s.clearChecksum :=
  ⟨rfl, rfl, rfl, by simp⟩

theorem accounts_respond {added recorded : List Byte} {s : State} (h : Accounts added recorded s) (e : Status)
    (d : DataWord) : Accounts added recorded (s.respond e d) :=
  ⟨h.acc, h.pos, h.stored, h.svalid⟩

theorem accounts_of_sameChecksum {added recorded : List Byte} {s t : State} (h : Accounts added recorded s)
    (hsame : SameChecksum s t) : Accounts added recorded t := by
  obtain ⟨hacc, hpos, hstored, hsvalid⟩ := hsame
  exact ⟨hacc ▸ h.acc, hpos ▸ h.pos, hstored ▸ h.stored, hsvalid ▸ h.svalid⟩

theorem accounts_add {added recorded : List Byte} {s : State} (h : Accounts added recorded s) (x : Byte) :
    Accounts (added ++ [x]) recorded (s.setAcc (addByte s.acc x)) := by
  refine ⟨?_, h.pos, h.stored, h.svalid⟩
  rw [State.setAcc_acc, addByte_toNat, h.acc, byteSum_append, byteSum_singleton]
  omega

/-- POS is 0 exactly before the first byte of the record, which is then captured. -/
theorem accounts_recordFirst {added recorded : List Byte} {s : State} (h : Accounts added recorded s)
    (hpos : s.pos.toNat = 0) (x : Byte) : Accounts added (recorded ++ [x]) (s.capture x).advance := by
  have hlen := h.pos
  obtain rfl : recorded = [] := List.length_eq_zero_iff.1 (by omega)
  have hnext : (s.capture x).advance.pos.toNat = s.pos.toNat + 1 :=
    advance_pos_toNat (by rw [State.capture_pos]; omega)
  exact ⟨h.acc, by rw [hnext, hpos]; rfl, rfl, by simp⟩

/-- At positions 1 to 102 the record has its first byte and room for one more, which is summed. -/
theorem accounts_recordLater {added recorded : List Byte} {s : State} (h : Accounts added recorded s)
    (hpos : s.pos.toNat ≠ 0) (hroom : s.pos.toNat ≠ 103) (x : Byte) :
    Accounts added (recorded ++ [x]) (s.setAcc (addByte s.acc x)).advance := by
  obtain ⟨hacc, hlen, hstored, hsvalid⟩ := h
  cases recorded with
  | nil => exact absurd hlen hpos
  | cons y ys =>
    rw [List.length_cons] at hlen
    rw [summedBytes_cons, List.take_of_length_le (by omega)] at hacc
    have hnext : (s.setAcc (addByte s.acc x)).advance.pos.toNat = s.pos.toNat + 1 :=
      advance_pos_toNat (by rw [State.setAcc_pos]; omega)
    refine ⟨?_, ?_, hstored, by simpa using hsvalid⟩
    · have hfits : (ys ++ [x]).length ≤ 102 := by
        rw [List.length_append, List.length_singleton]
        omega
      rw [State.advance_acc, State.setAcc_acc, addByte_toNat, hacc, List.cons_append, summedBytes_cons,
        List.take_of_length_le hfits, byteSum_append, byteSum_singleton]
      omega
    · rw [hnext, List.cons_append, List.length_cons, List.length_append, List.length_singleton]
      omega

/-- A byte past the end of the record leaves the account as it was. -/
theorem accounts_recordFull {added recorded : List Byte} {s : State} (h : Accounts added recorded s)
    (hfull : s.pos.toNat = 103) (x : Byte) : Accounts added (recorded ++ [x]) s := by
  obtain ⟨hacc, hlen, hstored, hsvalid⟩ := h
  cases recorded with
  | nil => exact absurd (hlen.symm.trans hfull) (by decide)
  | cons y ys =>
    rw [List.length_cons] at hlen
    refine ⟨?_, ?_, hstored, by simpa using hsvalid⟩
    · rw [hacc, List.cons_append, summedBytes_cons, summedBytes_cons, List.take_append_of_le_length (by omega)]
    · rw [List.cons_append, List.length_cons, List.length_append, List.length_singleton]
      omega

theorem accounts_exec_ckRec {added recorded : List Byte} {s : State} (h : Accounts added recorded s) (x : Byte) :
    ∃ t, exec (.ckRec 0#8 x) s = .next t ∧ Accounts added (recorded ++ [x]) t := by
  by_cases hfull : s.pos.toNat = 103
  · exact ⟨_, exec_ckRec_full hfull x, accounts_respond (accounts_recordFull h hfull x) _ _⟩
  · by_cases hpos : s.pos.toNat = 0
    · exact ⟨_, exec_ckRec_first hpos x, accounts_respond (accounts_recordFirst h hpos x) _ _⟩
    · exact ⟨_, exec_ckRec_later hpos hfull x, accounts_respond (accounts_recordLater h hpos hfull x) _ _⟩

/-- Every command but a completed CK.CLR adds the bytes it carries to the account, in every state. -/
theorem accounts_exec {added recorded : List Byte} {s : State} (h : Accounts added recorded s) {i : Instr}
    (hclr : i ≠ .ckClr 0#16) :
    ∃ t, exec i s = .next t ∧ Accounts (added ++ addedBytes [i]) (recorded ++ recordedBytes [i]) t := by
  obtain ⟨x, rfl⟩ | ⟨x, rfl⟩ | ⟨hadded, hrecorded⟩ := carriedBytes_cases i
  · obtain ⟨hadded, hrecorded⟩ := carriedBytes_ckAdd x
    rw [hadded, hrecorded, List.append_nil]
    exact ⟨_, exec_ckAdd x s, accounts_respond (accounts_add h x) _ _⟩
  · obtain ⟨hadded, hrecorded⟩ := carriedBytes_ckRec x
    rw [hadded, hrecorded, List.append_nil]
    exact accounts_exec_ckRec h x
  · obtain ⟨t, hexec, hsame⟩ := exec_of_no_carried_byte hclr hadded hrecorded s
    rw [hadded, hrecorded, List.append_nil, List.append_nil]
    exact ⟨t, hexec, accounts_of_sameChecksum h hsame⟩

theorem accounts_execSeq {is : List Instr} (hclr : Instr.ckClr 0#16 ∉ is) {added recorded : List Byte} {s : State}
    (h : Accounts added recorded s) :
    ∃ t, execSeq is s = .next t ∧ Accounts (added ++ addedBytes is) (recorded ++ recordedBytes is) t := by
  induction is generalizing added recorded s with
  | nil =>
    obtain ⟨hadded, hrecorded⟩ := carriedBytes_nil
    rw [hadded, hrecorded, List.append_nil, List.append_nil]
    exact ⟨s, execSeq_nil s, h⟩
  | cons i is ih =>
    rw [List.mem_cons, not_or] at hclr
    obtain ⟨hi, his⟩ := hclr
    obtain ⟨u, hexec, hu⟩ := accounts_exec h (Ne.symm hi)
    obtain ⟨t, hseq, ht⟩ := ih his hu
    refine ⟨t, (execSeq_cons_of_next hexec).trans hseq, ?_⟩
    rwa [← List.singleton_append, addedBytes_append, recordedBytes_append, ← List.append_assoc, ← List.append_assoc]

/-- CK.CLR opens an empty account, whatever the state before it holds. -/
theorem accounts_since_ckClr {is : List Instr} (hclr : Instr.ckClr 0#16 ∉ is) (s : State) :
    ∃ t, execSeq (.ckClr 0#16 :: is) s = .next t ∧ Accounts (addedBytes is) (recordedBytes is) t := by
  obtain ⟨t, hseq, ht⟩ := accounts_execSeq hclr (accounts_respond (accounts_clearChecksum s) .ok (ckData 0#7))
  exact ⟨t, (execSeq_cons_of_next (exec_ckClr s)).trans hseq, ht⟩

/-- Settles O33. -/
theorem registersSinceClear : Obligations.RegistersSinceClear := by
  intro is s hclr
  obtain ⟨t, hseq, ⟨hacc, hpos, hstored, hsvalid⟩⟩ := accounts_since_ckClr hclr s
  exact ⟨t, hseq, hacc, hpos, hstored, hsvalid⟩

/-! ### CK.RD after a sequence of commands (R108) -/

theorem execSeq_concat_of_next {is : List Instr} {i : Instr} {s t u : State} (h : execSeq is s = .next t)
    (h' : exec i t = .next u) : execSeq (is ++ [i]) s = .next u := by
  rw [execSeq_append_of_next h, execSeq_cons_of_next h', execSeq_nil]

/-- CK.RD shows the checksum of the exact sum that ACC holds modulo 128, and keeps ACC. -/
theorem exec_ckRd_of_sum {s : State} {n : Nat} (hacc : s.acc.toNat = n % 128) :
    ∃ t, exec (.ckRd 0#16) s = .next t ∧ t.acc.toNat = n % 128 ∧ Responds t .ok ((n + 0xA5) &&& 0x7F) :=
  ⟨_, exec_ckRd s, hacc, rfl, ckData_toNat_of_mod hacc, rfl⟩

/-- Settles O30: the account of the CK.ADD commands is the sum of their bytes. -/
theorem modularSumIsExactChecksum : Obligations.ModularSumIsExactChecksum := by
  intro xs s
  refine ⟨(ckval_toNat_of_mod ?_).symm, ?_⟩
  · rw [BitVec.toNat_ofNat]
    exact Nat.mod_mod _ _
  · have hclr : Instr.ckClr 0#16 ∉ addAll xs := by simp [addAll]
    obtain ⟨t, hseq, haccounts⟩ := accounts_since_ckClr hclr s
    obtain ⟨hadded, hrecorded⟩ := carriedBytes_addAll xs
    rw [hadded, hrecorded] at haccounts
    obtain ⟨u, hrd, hu⟩ := exec_ckRd_of_sum (n := byteSum xs) haccounts.acc
    exact ⟨u, execSeq_concat_of_next hseq hrd, hu⟩

/-! ### The whole-record law (R110, R111) -/

theorem execSeq_recordLoad (r : List Byte) (s : State) :
    ∃ t, execSeq (recordLoad r) s = .next t ∧ Accounts [] r t := by
  have hclr : Instr.ckClr 0#16 ∉ recAll r := by simp [recAll]
  obtain ⟨hadded, hrecorded⟩ := carriedBytes_recAll r
  have h := accounts_since_ckClr hclr s
  rwa [hadded, hrecorded] at h

theorem recordLoad_concat (xs : List Byte) (x : Byte) : recordLoad (xs ++ [x]) = recordLoad xs ++ [.ckRec 0#8 x] := by
  simp [recordLoad, recAll]

theorem take_recordLoad (r : List Byte) (k : Nat) : (recordLoad r).take (k + 1) = recordLoad (r.take k) := by
  simp [recordLoad, recAll]

/-- A record load of at most 103 bytes ends with OK: CK.CLR has no error, and before the last byte POS is below 103. -/
theorem execSeq_recordLoad_ok {r : List Byte} (hlen : r.length ≤ 103) (s : State) :
    ∃ t, execSeq (recordLoad r) s = .next t ∧ t.lastErr = .ok := by
  obtain rfl | ⟨xs, x, rfl⟩ := List.eq_nil_or_concat' r
  · exact ⟨_, execSeq_cons_of_next (exec_ckClr s), rfl⟩
  · rw [List.length_append, List.length_singleton] at hlen
    obtain ⟨t, hseq, haccounts⟩ := execSeq_recordLoad xs s
    have hpos := haccounts.pos
    obtain ⟨d, hexec⟩ := exec_ckRec_of_room (s := t) (by omega) x
    exact ⟨_, recordLoad_concat xs x ▸ execSeq_concat_of_next hseq hexec, rfl⟩

/-- After a whole record ACC holds the sum of its bytes 1 to 102. -/
theorem acc_of_record {r : List Byte} {t : State} (hlen : r.length = 103) (h : Accounts [] r t) :
    t.acc.toNat = byteSum r.tail % 128 := by
  have hacc := h.acc
  rwa [List.drop_one, List.take_of_length_le (by rw [List.length_tail]; omega), byteSum_nil, Nat.zero_add] at hacc

theorem exec_ckRd_of_record {r : List Byte} {t : State} (hlen : r.length = 103) (h : Accounts [] r t) :
    ∃ u, exec (.ckRd 0#16) t = .next u ∧ Responds u .ok (recordChecksum r) := by
  obtain ⟨u, hrd, -, hu⟩ := exec_ckRd_of_sum (acc_of_record hlen h)
  exact ⟨u, hrd, recordChecksum_eq hlen ▸ hu⟩

/-- Settles O34: the first commands of the load are a load of the first bytes, and the account of the load is the record. -/
theorem wholeRecordLaw : Obligations.WholeRecordLaw := by
  intro r s hlen
  refine ⟨fun k hlow hhigh => ?_, ?_⟩
  · obtain ⟨j, rfl⟩ := Nat.exists_eq_add_of_le' hlow
    rw [take_recordLoad]
    exact execSeq_recordLoad_ok (by rw [List.length_take]; omega) s
  · obtain ⟨t, hseq, haccounts⟩ := execSeq_recordLoad r s
    obtain ⟨u, hrd, hu⟩ := exec_ckRd_of_record hlen haccounts
    have hpos : t.pos.toNat = 103 := by rw [haccounts.pos, hlen, Nat.min_self]
    have hne : r ≠ [] := List.ne_nil_of_length_eq_add_one hlen
    have hstored : some t.stored = r.head? := by
      rw [haccounts.stored, List.headD_eq_head?_getD, List.head?_eq_some_head hne, Option.getD_some]
    exact ⟨t, u, hseq, acc_of_record hlen haccounts, hpos, hstored, haccounts.svalid.2 hne, hrd, hu⟩

/-- The load of a record and CK.RD answer the record's checksum, from any state (R110). -/
theorem execSeq_recordLoad_ckRd {r : List Byte} (hlen : r.length = 103) (s : State) :
    ∃ t, execSeq (recordLoad r ++ [.ckRd 0#16]) s = .next t ∧ Responds t .ok (recordChecksum r) := by
  obtain ⟨t, hseq, haccounts⟩ := execSeq_recordLoad r s
  obtain ⟨u, hrd, hu⟩ := exec_ckRd_of_record hlen haccounts
  exact ⟨u, execSeq_concat_of_next hseq hrd, hu⟩

/-- Records whose bytes 1 to 102 have the same sum get the same answer, from any two states. -/
theorem execSeq_recordLoad_ckRd_congr {r r' : List Byte} (hlen : r.length = 103) (hlen' : r'.length = 103)
    (hsum : byteSum r.tail = byteSum r'.tail) (s s' : State) :
    ∃ t t', execSeq (recordLoad r ++ [.ckRd 0#16]) s = .next t ∧
      execSeq (recordLoad r' ++ [.ckRd 0#16]) s' = .next t' ∧
      t.lastErr = .ok ∧ t'.lastErr = .ok ∧ t'.dout = t.dout := by
  obtain ⟨t, ht, herr, hdout, -⟩ := execSeq_recordLoad_ckRd hlen s
  obtain ⟨t', ht', herr', hdout', -⟩ := execSeq_recordLoad_ckRd hlen' s'
  have hsame : recordChecksum r' = recordChecksum r := by rw [recordChecksum_eq hlen', recordChecksum_eq hlen, hsum]
  exact ⟨t, t', ht, ht', herr, herr', BitVec.eq_of_toNat_eq (hdout'.trans (hsame.trans hdout.symm))⟩

/-- Settles O35: the two records have the same bytes 1 to 102. -/
theorem checksumByteExcludedFromItself : Obligations.ChecksumByteExcludedFromItself := by
  intro x y rest s s' hlen
  have hrecord (z : Byte) : (z :: rest).length = 103 := congrArg (· + 1) hlen
  exact execSeq_recordLoad_ckRd_congr (hrecord x) (hrecord y) rfl s s'

/-! ### Order and boundary do not matter (R103) -/

/-- Two CK.ADD commands in a row, as the one sum they leave: the first response is overwritten. -/
theorem execSeq_ckAdd_ckAdd (x y : Byte) (is : List Instr) (s : State) :
    execSeq (.ckAdd 0#8 x :: .ckAdd 0#8 y :: is) s =
      execSeq is ((s.setAcc (addByte (addByte s.acc x) y)).respond .ok (ckData (addByte (addByte s.acc x) y))) := by
  rw [execSeq_cons_of_next (exec_ckAdd x s), execSeq_cons_of_next (exec_ckAdd y _)]
  rfl

/-- By the rules that generate the permutations: neighbours may change places, because the addition commutes. -/
theorem execSeq_addAll_of_perm {xs ys : List Byte} (h : xs.Perm ys) (s : State) :
    execSeq (addAll xs) s = execSeq (addAll ys) s := by
  induction h generalizing s with
  | nil => rfl
  | cons x _ ih =>
    rw [addAll_cons, addAll_cons, List.singleton_append, List.singleton_append,
      execSeq_cons_of_next (exec_ckAdd x s), execSeq_cons_of_next (exec_ckAdd x s), ih]
  | swap x y zs =>
    calc execSeq (.ckAdd 0#8 y :: .ckAdd 0#8 x :: addAll zs) s
        = execSeq (.ckAdd 0#8 x :: .ckAdd 0#8 y :: addAll zs) s := by
          rw [execSeq_ckAdd_ckAdd, execSeq_ckAdd_ckAdd, addByte_comm]
  | trans _ _ ih ih' => exact (ih s).trans (ih' s)

/-- Settles O32. -/
theorem checksumIgnoresOrderAndBoundary : Obligations.ChecksumIgnoresOrderAndBoundary := by
  refine ⟨fun xs ys s h => execSeq_addAll_of_perm h s, fun r r' s hlen hlen' hperm => ?_, fun r k hlen => ?_⟩
  · obtain ⟨t, t', ht, ht', -, -, hdout⟩ :=
      execSeq_recordLoad_ckRd_congr hlen hlen' (byteSum_eq_of_perm hperm) s s
    exact ⟨t, t', ht, ht', hdout⟩
  · rw [byteSum_take_add_drop, recordChecksum_eq hlen]

end Sys2Proof.Machine

/-! SUPPORT. The control command NOP and the reserved opcodes (43_control.md): their words, and the response of each. -/

namespace Sys2Proof.Machine

/-! ### Reserved opcodes (R131) -/

/-- The operand of a reserved opcode is not checked (R131). -/
theorem sbzClear_of_reserved {i : Instr} (h : i.opDefined = false) : i.sbzClear = true := by
  cases i with
  | reservedAB | reservedCF => rfl
  | _ => cases h

theorem commandStatus_of_reserved {i : Instr} (h : i.opDefined = false) (s : State) : commandStatus i s = .illegal :=
  (commandStatus_of_sbzClear (sbzClear_of_reserved h) s).trans ((operandStatus_eq_illegal_iff i s).2 h)

theorem exec_of_reserved {i : Instr} (h : i.opDefined = false) (s : State) :
    ∃ t, exec i s = .next t ∧ ErrorResponse .illegal s t :=
  exec_errorResponse (commandStatus_of_reserved h s) (by decide)

theorem encode_reservedAB_toNat (x : BitVec 1) (a : ArgWord) :
    (encode (.reservedAB x a)).toNat = (10 + x.toNat) * 65536 + a.toNat := by
  have hop : (0b101#3 ++ x).toNat = 10 + x.toNat := append_toNat 0b101#3 x
  rw [encode_toNat_of_op (0b101#3 ++ x) rfl, hop, Instr.arg]

theorem encode_reservedCF_toNat (x : BitVec 2) (a : ArgWord) :
    (encode (.reservedCF x a)).toNat = (12 + x.toNat) * 65536 + a.toNat := by
  have hop : (0b11#2 ++ x).toNat = 12 + x.toNat := append_toNat 0b11#2 x
  rw [encode_toNat_of_op (0b11#2 ++ x) rfl, hop, Instr.arg]

/-- The words from 0xA0000 on have one of the opcodes of the table's last two rows, `101x` and `11xx` (R63). -/
theorem decode_reserved_of_ge {w : CmdWord} (h : 0xA0000 ≤ w.toNat) : (decode w).opDefined = false := by
  by_cases hlast : 12 ≤ w.toNat / 65536
  · obtain ⟨x, a, hdecode, -⟩ := decode_of_reservedCF hlast
    rw [hdecode, Instr.opDefined]
  · obtain ⟨x, a, hdecode, -⟩ := decode_of_reservedAB (w := w) (by omega)
    rw [hdecode, Instr.opDefined]

/-- Settles O16: ILLEGAL is the status of a reserved opcode whatever its operand is. -/
theorem reservedOpcodesAreIllegal : Obligations.ReservedOpcodesAreIllegal :=
  ⟨fun x a s => ⟨encode_reservedAB_toNat x a, exec_of_reserved rfl s⟩,
    fun x a s => ⟨encode_reservedCF_toNat x a, exec_of_reserved rfl s⟩,
    fun _ s h => exec_of_reserved (decode_reserved_of_ge h) s⟩

/-! ### NOP (R130) -/

theorem exec_nop (s : State) : exec (.nop 0#16) s = .next (s.respond .ok 0x0000#16) :=
  exec_of_ok rfl

/-- NOP's opcode is 0, so its word is its operand. -/
theorem encode_nop_toNat (z : BitVec 16) : (encode (.nop z)).toNat = z.toNat :=
  (encode_toNat_of_op 0x0#4 rfl).trans (Nat.zero_add z.toNat)

/-- Settles O15. -/
theorem nopResult : Obligations.NopResult := by
  intro z s
  refine ⟨encode_nop_toNat z, fun hz => ?_, fun hz => ?_⟩
  · subst hz
    exact ⟨_, exec_nop s, pureResponse_respond s 0x0000#16⟩
  · exact exec_of_sbzSet (i := .nop z) (beq_false_of_ne hz) s

end Sys2Proof.Machine

/-! SUPPORT. Errors and inspection (60_exceptions.md): the state that an error leaves, the status code of every command word,
and what the readouts show. -/

namespace Sys2Proof.Machine

/-! ### The state that an error leaves (R142, R147) -/

/-- A command that reports an error leaves the state before it, with the error response in the response registers (R142). -/
theorem eq_respond_of_error {i : Instr} {s t : State} (hexec : exec i s = .next t) (herror : t.lastErr ≠ .ok) :
    t = s.respond t.lastErr 0x0000#16 := by
  obtain ⟨_, hanswer, hstatus, -, -, hresponse⟩ := exec_answers i s
  obtain rfl := Host.Outcome.next.inj (hexec.symm.trans hanswer)
  rw [hstatus] at herror ⊢
  exact hresponse herror

/-- Settles O38: an error's state is the state before it with a response. -/
theorem errorsArePrecise : Obligations.ErrorsArePrecise := by
  intro i s
  obtain ⟨t, hexec, -⟩ := everyCommandAnswers i s
  refine ⟨t, hexec, fun herror => ?_⟩
  rw [eq_respond_of_error hexec herror]
  exact errorResponse_respond s t.lastErr

/-- Settles O41: an error leaves a response only, and no command reads a response. -/
theorem errorsAreNotSticky : Obligations.ErrorsAreNotSticky := by
  intro i j s t hexec herror
  obtain ⟨u, hnext, -⟩ := everyCommandAnswers j t
  refine ⟨?_, u, hnext⟩
  rw [eq_respond_of_error hexec herror, exec_respond]

/-! ### The rule of the status codes, one opcode or format at a time (R64, R144) -/

theorem statusRule_reserved {op : Nat} (h : 10 ≤ op) (arg pos : Nat) : statusRule op arg pos = 1 :=
  if_pos h

theorem statusRule_formatZ {op : Nat} (h : op = 0 ∨ op = 5 ∨ op = 8 ∨ op = 9) (arg pos : Nat) :
    statusRule op arg pos = if arg ≠ 0 then 2 else 0 := by
  obtain rfl | rfl | rfl | rfl := h <;> simp [statusRule]

theorem statusRule_insEnc (arg pos : Nat) : statusRule 1 arg pos = if arg / 512 ≠ 0 then 2 else 0 := by
  simp [statusRule]

theorem statusRule_insDec (arg pos : Nat) :
    statusRule 2 arg pos = if 3 < arg / 256 ∨ 127 < arg % 256 then 2 else 0 := by
  simp [statusRule]

theorem statusRule_muteEnc (arg pos : Nat) : statusRule 3 arg pos = if arg / 16 ≠ 0 then 2 else 0 := by
  simp [statusRule]

theorem statusRule_muteDec (arg pos : Nat) :
    statusRule 4 arg pos = if arg / 256 ≠ 0 then 2 else if arg / 16 ≠ 0 then 2 else 0 := by
  simp [statusRule]

theorem statusRule_ckAdd (arg pos : Nat) : statusRule 6 arg pos = if arg / 256 ≠ 0 then 2 else 0 := by
  simp [statusRule]

theorem statusRule_ckRec (arg pos : Nat) :
    statusRule 7 arg pos = if arg / 256 ≠ 0 then 2 else if pos = 103 then 3 else 0 := by
  simp [statusRule]

/-! ### The status code of a command follows the rule -/

theorem append_toNat_div {m n : Nat} (a : BitVec m) (b : BitVec n) : (a ++ b).toNat / 2 ^ n = a.toNat := by
  rw [← extractLsb'_high_toNat _ rfl, BitVec.extractLsb'_append_eq_left]

theorem append_toNat_mod {m n : Nat} (a : BitVec m) (b : BitVec n) : (a ++ b).toNat % 2 ^ n = b.toNat := by
  rw [← extractLsb'_low_toNat, BitVec.extractLsb'_append_eq_right]

/-- The check of the SBZ bits comes before the others (R61, R144): `q` is the SBZ bits as a number, and `code` is what the
later checks give. -/
theorem code_sbzCheck {n q code : Nat} {sbz : BitVec n} {e : Status} (hq : q = sbz.toNat)
    (hlater : sbz = 0#n → e.code.toNat = code) :
    (bif sbz == 0#n then e else .range).code.toNat = if q ≠ 0 then 2 else code := by
  by_cases hz : sbz = 0#n
  · have hclear : ¬ q ≠ 0 := by simp [hq, hz]
    rw [if_neg hclear, ← hlater hz, beq_iff_eq.2 hz, cond_true]
  · have hset : q ≠ 0 := by simpa [hq, ← BitVec.toNat_inj] using hz
    rw [if_pos hset, beq_false_of_ne hz, cond_false]
    rfl

/-- A check of an operand value or of POS, written as two equivalent conditions. -/
theorem code_ite {c d : Prop} [Decidable c] [Decidable d] (h : c ↔ d) (e e' : Status) :
    (if c then e else e').code.toNat = if d then e.code.toNat else e'.code.toNat := by
  rw [apply_ite Status.code, apply_ite BitVec.toNat]
  exact if_congr h rfl rfl

/-- The rule of R144 gives every command the code of its status, from the numbers of its opcode and operand. -/
theorem commandStatus_code (i : Instr) (s : State) :
    (commandStatus i s).code.toNat = statusRule i.op.toNat i.arg.toNat s.pos.toNat := by
  cases i with
  | nop sbz | ckClr sbz | ckRd sbz | ckStat sbz =>
    exact (code_sbzCheck rfl fun _ => rfl).trans (statusRule_formatZ (by simp [Instr.op]) _ _).symm
  | insEnc sbz v =>
    exact (code_sbzCheck (append_toNat_div sbz v) fun _ => rfl).trans (statusRule_insEnc _ _).symm
  | insDec b0 b1 =>
    have hvalue : insOutOfRange b0 b1 = true ↔ 3 < (b0 ++ b1).toNat / 2 ^ 8 ∨ 127 < (b0 ++ b1).toNat % 2 ^ 8 := by
      rw [append_toNat_div, append_toNat_mod, insOutOfRange_iff]
    exact (code_ite hvalue .range .ok).trans (statusRule_insDec _ _).symm
  | muteEnc sbz f =>
    exact (code_sbzCheck (append_toNat_div sbz f) fun _ => rfl).trans (statusRule_muteEnc _ _).symm
  | muteDec sbz b =>
    refine (code_sbzCheck (append_toNat_div sbz b) fun hz => ?_).trans (statusRule_muteDec _ _).symm
    have hvalue : muteHighSet b = true ↔ (sbz ++ b).toNat / 16 ≠ 0 := by
      rw [hz, zero_append_toNat, muteHighSet_iff]
    exact code_ite hvalue .range .ok
  | ckAdd sbz x =>
    exact (code_sbzCheck (append_toNat_div sbz x) fun _ => rfl).trans (statusRule_ckAdd _ _).symm
  | ckRec sbz x =>
    refine (code_sbzCheck (append_toNat_div sbz x) fun _ => ?_).trans (statusRule_ckRec _ _).symm
    exact code_ite Iff.rfl .overrun .ok
  | reservedAB x arg =>
    have hop : 10 ≤ (0b101#3 ++ x).toNat := by
      rw [append_toNat]
      exact Nat.le_add_right 10 _
    exact (statusRule_reserved hop _ _).symm
  | reservedCF x arg =>
    have hop : 10 ≤ (0b11#2 ++ x).toNat := by
      rw [append_toNat]
      exact Nat.le_add_right_of_le (by decide)
    exact (statusRule_reserved hop _ _).symm

theorem op_decode_toNat (w : CmdWord) : (decode w).op.toNat = w.toNat / 65536 := by
  rw [decode, op_decodeFields, opField_toNat]

theorem arg_decode_toNat (w : CmdWord) : (decode w).arg.toNat = w.toNat % 65536 := by
  rw [decode, arg_decodeFields, argField_toNat]

/-- Settles O39: the rule holds of every command, and a word's quotient and remainder are its command's opcode and operand. -/
theorem statusOfEveryCommandWord : Obligations.StatusOfEveryCommandWord := by
  intro w s
  obtain ⟨t, hexec, hstatus, -⟩ := exec_answers (decode w) s
  refine ⟨t, hexec, ?_⟩
  rw [hstatus, commandStatus_code, op_decode_toNat, arg_decode_toNat]

/-! ### The readouts show every checksum register (R153) -/

/-- `ckval` adds 0xA5, which is 0x25 modulo 128, so subtracting 0x25 gives the accumulator back (R15, R153). -/
theorem acc_eq_of_ckData (a : Sum7) : a.toNat = ((ckData a).toNat + 128 - 0x25) % 128 := by
  have ha := a.isLt
  rw [ckData_toNat]
  omega

theorem fields_eq_of_statData (stored : Byte) (svalid : Bool) (pos : Pos7) :
    stored.toNat = (statData stored svalid pos).toNat / 256 ∧
      svalid.toNat = (statData stored svalid pos).toNat / 128 % 2 ∧
      pos.toNat = (statData stored svalid pos).toNat % 128 := by
  have hsvalid := svalid.toNat_lt
  have hpos := pos.isLt
  rw [statData_toNat]
  omega

/-- Settles O29: the two readouts can be inverted. -/
theorem readoutsShowEveryChecksumRegister : Obligations.ReadoutsShowEveryChecksumRegister := by
  intro s
  exact ⟨_, _, exec_ckRd s, exec_ckStat s, acc_eq_of_ckData s.acc, fields_eq_of_statData s.stored s.svalid s.pos⟩

end Sys2Proof.Machine

/-! SUPPORT. Rising edges and reset (70_reset_and_hazards.md): the step at each kind of edge when its port samples stand first
in the host's list, commands presented at consecutive edges, and the statements that follow. -/

namespace Sys2Proof.Machine

/-! ### The port samples of the next edge -/

theorem takeEdge_of_cons {s : State} {e : Edge} {rest : List Edge} (hinputs : s.inputs = e :: rest) :
    s.takeEdge = s.withInputs rest := by
  rw [State.takeEdge, hinputs, List.tail_cons]

theorem eq_withInputs {s : State} {es : List Edge} (hinputs : s.inputs = es) : s = s.withInputs es := by
  rw [← hinputs]
  rfl

/-! ### The step at each kind of edge (R161) -/

/-- A reset edge leaves the reset state, whatever stood before it (R35, R165). -/
theorem step_reset_cons {s : State} {v : Bool} {op : OpWord} {arg : ArgWord} {rest : List Edge}
    (hinputs : s.inputs = ⟨true, v, op, arg⟩ :: rest) : step s = .next (State.reset.withInputs rest) := by
  have hrst : s.nextEdge.rst = true := by rw [nextEdge_cons hinputs]
  rw [step_of_rst hrst, takeEdge_of_cons hinputs]
  rfl

theorem step_command_cons {s : State} (hseen : s.resetSeen = true) {w : CmdWord} {rest : List Edge}
    (hinputs : s.inputs = Edge.command w :: rest) : step s = exec (decode w) (s.withInputs rest) :=
  calc step s
      = step (s.withInputs (Edge.command w :: rest)) := congrArg step (eq_withInputs hinputs)
    _ = exec (decode w) (s.withInputs rest) := step_withInputs_command hseen w rest

theorem step_of_idleBeforeReset {s : State} (hunseen : s.resetSeen = false) (hrst : s.nextEdge.rst = false)
    (hvalid : s.nextEdge.cmdValid = false) : step s = .next s.takeEdge.idleUnresetEdge := by
  simp [step, edgeCase, hunseen, hrst, hvalid]

theorem step_of_commandBeforeReset {s : State} (hunseen : s.resetSeen = false) (hrst : s.nextEdge.rst = false)
    (hvalid : s.nextEdge.cmdValid = true) : step s = .refused .commandBeforeReset := by
  simp [step, edgeCase, hunseen, hrst, hvalid]

/-- An idle edge never stops the machine, before a reset edge or after one, and does not count as one (R164, R165). -/
theorem step_idle_cons {s : State} {e : Edge} {rest : List Edge} (hinputs : s.inputs = e :: rest)
    (hrst : e.rst = false) (hvalid : e.cmdValid = false) :
    ∃ t, step s = .next t ∧ t.resetSeen = s.resetSeen ∧ t.inputs = rest := by
  rw [← nextEdge_cons hinputs] at hrst hvalid
  have htail : s.takeEdge.inputs = rest := by rw [takeEdge_of_cons hinputs, State.withInputs_inputs]
  cases hseen : s.resetSeen with
  | true => exact ⟨_, step_of_idle hseen hrst hvalid, hseen, htail⟩
  | false => exact ⟨_, step_of_idleBeforeReset hseen hrst hvalid, rfl, htail⟩

/-! ### Commands and idle edges (R162, R164) -/

/-- Settles O5: the edge of the statement is the one at which the host presents `w`. -/
theorem stepRunsDecodedCommand : Obligations.StepRunsDecodedCommand := by
  rintro s w _ rest hseen hinputs rfl
  exact ⟨step_command_cons hseen hinputs, rfl⟩

theorem tableWord_of_lt {nbits n : Nat} (hbits : 20 ≤ nbits) (hn : n < 2 ^ 20) :
    tableWord nbits n = .ok (BitVec.ofNat 20 n) := by
  have hfits : n < 2 ^ nbits := hn.trans_le (Nat.pow_le_pow_right two_pos hbits)
  rw [tableWord, Nat.mod_eq_of_lt hfits, commandWord_of_lt hn]

theorem withFetchWord_of_lt {nbits n : Nat} (hbits : 20 ≤ nbits) (hn : n < 2 ^ 20) (s : State) :
    s.withFetchWord nbits n = s.present [Edge.command (BitVec.ofNat 20 n)] := by
  rw [State.withFetchWord, tableWord_of_lt hbits hn]

/-- Settles O6: the word fits, so its edge comes before those that the host was to present. -/
theorem fetchWordRunsNext : Obligations.FetchWordRunsNext := by
  intro s nbits n hseen hbits hn
  rw [withFetchWord_of_lt hbits hn]
  exact step_withInputs_command hseen _ s.inputs

/-- Settles O7. -/
theorem idleEdgeClearsOnlyRvalid : Obligations.IdleEdgeClearsOnlyRvalid := by
  intro s op arg rest hseen hinputs
  have hnext := nextEdge_cons hinputs
  rw [step_of_idle hseen (by rw [hnext]) (by rw [hnext]), takeEdge_of_cons hinputs]
  rfl

/-- Settles O10: the command answers with RVALID 1 and leaves the idle edge to come, which clears RVALID alone. -/
theorem responseValidForOneCycle : Obligations.ResponseValidForOneCycle := by
  intro s w op arg rest hseen hinputs
  obtain ⟨t, hexec, hrvalid, hnext, hkept, -⟩ :=
    everyCommandAnswers (decode w) (s.withInputs (⟨false, false, op, arg⟩ :: rest))
  have hcommand : step s = .next t := (step_command_cons hseen hinputs).trans hexec
  have hidle := idleEdgeClearsOnlyRvalid t op arg rest (hkept.trans hseen) hnext
  exact ⟨t, _, hcommand, hidle, hexec, by rw [State.outPorts, hrvalid], rfl⟩

/-! ### Reset edges and the time before the first (R165, R166) -/

/-- Settles O11. -/
theorem noCommandBeforeReset : Obligations.NoCommandBeforeReset := by
  intro s v op arg rest hunseen hinputs
  have hnext := nextEdge_cons hinputs
  refine ⟨fun hv => ?_, fun hv => ?_⟩
  · exact step_of_commandBeforeReset hunseen (by rw [hnext]) (by rw [hnext, hv])
  · obtain ⟨t, hstep, hkept, hrest⟩ := step_idle_cons hinputs rfl hv
    exact ⟨t, hstep, hkept.trans hunseen, hrest⟩

/-- Settles O9: the reset edge leaves the reset state with the command's edge to come. -/
theorem commandAcceptedRightAfterReset : Obligations.CommandAcceptedRightAfterReset := by
  intro s v op arg w rest hinputs
  obtain ⟨u, hexec, hrvalid, -⟩ := everyCommandAnswers (decode w) (State.reset.withInputs rest)
  have hcommand := step_withInputs_command State.reset_resetSeen w rest
  exact ⟨_, u, step_reset_cons hinputs, hcommand.trans hexec, hrvalid, hexec⟩

/-- Settles O52, by induction on the idle edges: none of them stops the machine, and the reset edge overwrites all they left. -/
theorem resetAfterAnyIdleEdges : Obligations.ResetAfterAnyIdleEdges := by
  intro es v op arg rest
  induction es with
  | nil => exact fun s _ hinputs => runEdges_succ_of_next (step_reset_cons hinputs)
  | cons e es ih =>
    intro s hidle hinputs
    obtain ⟨⟨hrst, hvalid⟩, hlater⟩ := List.forall_mem_cons.1 hidle
    obtain ⟨t, hstep, -, hrest⟩ := step_idle_cons hinputs hrst hvalid
    exact (runEdges_succ_of_next hstep).trans (ih t hlater hrest)

/-! ### A record at consecutive edges (R168, R169) -/

theorem map_decode_encode (is : List Instr) : (is.map encode).map decode = is := by
  have hinverse : decode ∘ encode = id := funext decodeOfEncode
  rw [List.map_map, hinverse, List.map_id]

/-- Commands presented at consecutive edges run as their sequence does, and use up their own port samples only. -/
theorem runEdges_commands {is : List Instr} {s t : State} {rest : List Edge} (hseen : s.resetSeen = true)
    (hinputs : s.inputs = is.map (fun i => Edge.command (encode i)) ++ rest)
    (hseq : execSeq is (s.withInputs rest) = .next t) :
    runEdges is.length s = .next t ∧ t.inputs = rest := by
  have hrun : runEdges is.length s = .next t := by
    have h := consecutiveCommandsRunInOrder (is.map encode) s rest hseen
    rw [List.length_map, List.map_map, map_decode_encode, hseq] at h
    rwa [eq_withInputs hinputs]
  obtain ⟨u, hrun', -, hdrop⟩ := machineNeverStopsAfterReset is.length s hseen
  obtain rfl := Host.Outcome.next.inj (hrun.symm.trans hrun')
  exact ⟨hrun, by rw [hdrop, hinputs, List.drop_left' (List.length_map _)]⟩

theorem length_recordLoad_ckRd (r : List Byte) : (recordLoad r ++ [Instr.ckRd 0#16]).length = r.length + 2 := by
  simp [recordLoad, recAll]

/-- Settles O37: the 105 edges run the record load and CK.RD, whose response the ports show. -/
theorem recordChecksumAfter105Edges : Obligations.RecordChecksumAfter105Edges := by
  intro r s rest hlen hseen hinputs
  obtain ⟨t, hseq, hstatus, hdout, hrvalid⟩ := execSeq_recordLoad_ckRd hlen (s.withInputs rest)
  obtain ⟨hrun, hrest⟩ := runEdges_commands hseen hinputs hseq
  rw [length_recordLoad_ckRd, hlen] at hrun
  have hcode : t.outPorts.rspErr.toNat = 0 := by rw [State.outPorts, hstatus]; rfl
  exact ⟨t, hrun, hrvalid, hcode, hdout, hrest⟩

end Sys2Proof.Machine

namespace Sys2Proof.Machine

/-! ### Words written out (R61, R63) -/

/-- Settles O4: the opcode of each word names its row of the decoder's table (R63), and the row cuts the operand into the
fields of its format (R61). -/
theorem writtenWordsDecode : Obligations.WrittenWordsDecode := by
  unfold Obligations.WrittenWordsDecode
  refine ⟨?nop, ?insEnc, ?insDec, ?muteEnc, ?ckRec, ?ckStat, ?reservedAB, ?reservedCF⟩
  case nop => exact decode_of_opcode 0x0#4 rfl
  case insEnc => exact decode_of_opcode 0x1#4 rfl
  case insDec => exact decode_of_opcode 0x2#4 rfl
  case muteEnc => exact decode_of_opcode 0x3#4 rfl
  case ckRec => exact decode_of_opcode 0x7#4 rfl
  case ckStat => exact decode_of_opcode 0x9#4 rfl
  case reservedAB => exact decode_of_opcode 0xA#4 rfl
  case reservedCF => exact decode_of_opcode 0xF#4 rfl

end Sys2Proof.Machine
